-- ==== Sys2Proof/Word.lean ====
section
/-! DEFINITION. Word types of the part, index sets (lane sets, channel sets, group sets), fixed tables,
and the types of the commands' operands that are not plain numbers. -/

namespace Sys2Proof

/-- One byte of a frame, payload or image. -/
abbrev Byte := BitVec 8

/-- A 32-bit digest (11 R184). -/
abbrev Digest := BitVec 32

/-- A lane, 0 to 3 (00 section 1.6). -/
abbrev Lane := Fin 4

/-- A channel, 0 to 63 (00 section 1.6). -/
abbrev Channel := Fin 64

/-- A slot of the ballot table, 0 to 7 (06 R94). -/
abbrev BallotSlot := Fin 8

/-- A timer: stopped (`none`) or running with its remaining time in ms (00 section 1.6). -/
abbrev Timer := Option Nat

/-- A set of indexes below `n`, one bit each: "bit n is set when lane n is a member" (11 R178). -/
abbrev IndexSet (n : Nat) := BitVec n

/-- A set of lanes (11 R178). -/
abbrev LaneSet := IndexSet 4

/-- A set of channels (08 R128). -/
abbrev ChannelSet := IndexSet 64

/-- A set of exclusion groups (03 R50). -/
abbrev GroupSet := IndexSet 12

namespace IndexSet

variable {n : Nat}

/-- Membership. -/
def has (s : IndexSet n) (i : Fin n) : Bool := s.getLsbD i.val

/-- The set with `i` added. -/
def insert (s : IndexSet n) (i : Fin n) : IndexSet n := s ||| BitVec.twoPow n i.val

/-- The set with `i` removed. -/
def erase (s : IndexSet n) (i : Fin n) : IndexSet n := s &&& ~~~(BitVec.twoPow n i.val)

/-- The members in ascending order. -/
def members (s : IndexSet n) : List (Fin n) := (List.finRange n).filter (fun i => has s i)

/-- The number of members. -/
def size (s : IndexSet n) : Nat := (members s).length

/-- The set of the indexes that satisfy `p`. -/
def ofPred (p : Fin n → Bool) : IndexSet n :=
  (List.finRange n).foldl (fun acc i => if p i then insert acc i else acc) (0#n)

end IndexSet

/-- A table of `n` rows. -/
abbrev Table (n : Nat) (α : Type) := Vector α n

namespace Table

variable {n : Nat} {α β : Type}

/-- Row `i`. -/
def row (t : Table n α) (i : Fin n) : α := t[i.val]

/-- The table with row `i` replaced. -/
def put (t : Table n α) (i : Fin n) (x : α) : Table n α := t.set i.val x i.isLt

/-- The table whose row `i` is `f i`. -/
def build (f : Fin n → α) : Table n α := ⟨⟨List.ofFn f⟩, by simp⟩

/-- The table with `f` applied to every row. -/
def mapRows (t : Table n α) (f : α → β) : Table n β := build (fun i => f (row t i))

/-- The table with `f` applied to row `i`. -/
def modify (t : Table n α) (i : Fin n) (f : α → α) : Table n α := put t i (f (row t i))

/-- The table whose rows are all `x`. -/
def fill (n : Nat) (x : α) : Table n α := build (fun _ => x)

end Table

/-- A readback level (08 R134). -/
inductive ReadbackLevel
  | deEnergized
  | energized
  deriving DecidableEq, Repr

/-- The five records of protected storage (05 R85). -/
inductive ProtectedRecord
  | activeConfiguration
  | pendingRecord
  | agreedImage
  | membershipTable
  | ballotTable
  deriving DecidableEq, Repr

/-- The outcome of a channel in a round (02 R28 to R30); an UNUSED channel is not evaluated. -/
inductive RoundOutcome
  | notEvaluated
  | agreed (value : Nat)
  | noQuorum
  deriving DecidableEq, Repr

/-- What one evaluator computes for one channel (02 R37): outcome, candidate value, new hold count and
STALE flag, dissenting-lane set, the groups that withhold the channel (the WITHHELD flag is set when there
is one; comparing the whole set is the model's choice, log 28), and the resolved value. -/
structure ChannelResult where
  outcome : RoundOutcome
  candidate : Nat
  hold : Nat
  stale : Bool
  dissent : LaneSet
  withheldBy : GroupSet
  resolved : Nat
  deriving DecidableEq, Repr

/-- The result of one evaluator (02 R37): its results for the channels, and the dissent report, which names
each lane with whether it dissented (02 R34). -/
structure Evaluation where
  channels : Table 64 ChannelResult
  report : List (Lane × Bool)
  deriving DecidableEq, Repr

end Sys2Proof
end

