-- ==== Sys2Proof/Syntax.lean ====
section
/-! DEFINITION. The commands of the part: one constructor for each row of spec/opcode_table.json. -/

namespace Sys2Proof

/-- The commands. A request carries its lane, the sequence number of its frame and the payload bytes of its
frame (11 R179, R181); it stands for a frame of that kind whose length and CRC-16 are good (log 1).
`evalB` is what the second evaluator delivers at a close the command brings about, when it does not compute
what the first one does; `none` is a sound second evaluator (log 5). -/
inductive Instr
  /-- POWER_ON_RESET (12 R185): power is applied. -/
  | powerOnReset
  /-- BROWN_OUT (12 R185): VDD falls below 2.7 V. -/
  | brownOut
  /-- POWER_ON_RESET_END (05 R92, 12 R185): VDD has held at or above 2.9 V for 2 ms. -/
  | powerOnResetEnd
  /-- RSTN_ASSERT (05 R93, 12 R186): RSTN has held low for 1 µs. -/
  | rstnAssert
  /-- RSTN_RELEASE (05 R93, 12 R186): RSTN has held high for 1 µs. -/
  | rstnRelease
  /-- CHIP_SELECT_ASSERT (10 R162) on the link of `lane`. -/
  | chipSelectAssert (lane : Lane)
  /-- CHIP_SELECT_RELEASE (10 R163) on the link of `lane`, with the whole bytes shifted in; as many whole
  bytes were shifted out (log 10). -/
  | chipSelectRelease (lane : Lane) (shiftedIn : List Byte) (evalB : Option Evaluation)
  /-- JOIN (04 R56, R57). -/
  | join (lane : Lane) (seq : Byte) (payload : List Byte)
  /-- LEAVE (04 R59). -/
  | leave (lane : Lane) (seq : Byte) (payload : List Byte) (evalB : Option Evaluation)
  /-- KEEPALIVE (04 R58). -/
  | keepalive (lane : Lane) (seq : Byte) (payload : List Byte)
  /-- PROPOSE (02 R19). -/
  | propose (lane : Lane) (seq : Byte) (payload : List Byte) (evalB : Option Evaluation)
  /-- VETO (08 R129). -/
  | veto (lane : Lane) (seq : Byte) (payload : List Byte)
  /-- SUPPORT (06 R96). -/
  | support (lane : Lane) (seq : Byte) (payload : List Byte)
  /-- STAGE_WRITE (07 R113). -/
  | stageWrite (lane : Lane) (seq : Byte) (payload : List Byte)
  /-- STAGE_SEAL (07 R114). -/
  | stageSeal (lane : Lane) (seq : Byte) (payload : List Byte)
  /-- STAGE_OPEN (07 R117). -/
  | stageOpen (lane : Lane) (seq : Byte) (payload : List Byte)
  /-- READ_STAGING (07 R118). -/
  | readStaging (lane : Lane) (seq : Byte) (payload : List Byte)
  /-- FETCH_NOTICES (09 R155, R156). -/
  | fetchNotices (lane : Lane) (seq : Byte) (payload : List Byte)
  /-- READ_STATUS (10 R174). -/
  | readStatus (lane : Lane) (seq : Byte) (payload : List Byte)
  /-- READ_CHANNELS (10 R175). -/
  | readChannels (lane : Lane) (seq : Byte) (payload : List Byte)
  /-- READ_BALLOTS (10 R176). -/
  | readBallots (lane : Lane) (seq : Byte) (payload : List Byte)
  /-- LINK_RESET (10 R173). -/
  | linkReset (lane : Lane) (seq : Byte) (payload : List Byte)
  /-- UNKNOWN_REQUEST_KIND (10 R172): `kind` names none of the fifteen requests. -/
  | unknownRequestKind (lane : Lane) (kind : Byte) (seq : Byte) (payload : List Byte)
  /-- ROUND_DEADLINE_EXPIRY (02 R24). -/
  | roundDeadlineExpiry (evalB : Option Evaluation)
  /-- LEASE_EXPIRY (04 R62) of `lane`. -/
  | leaseExpiry (lane : Lane) (evalB : Option Evaluation)
  /-- GRACE_EXPIRY (04 R64) of `lane`. -/
  | graceExpiry (lane : Lane)
  /-- BALLOT_LIFETIME_EXPIRY (06 R99) of the ballot in `slot`. -/
  | ballotLifetimeExpiry (slot : BallotSlot)
  /-- SEAL_COMPLETION (07 R115) of the seal of `lane`. -/
  | sealCompletion (lane : Lane)
  /-- READBACK_LEVEL_CHANGE (08 R134): the filtered level of `channel` is now `level`. -/
  | readbackLevelChange (channel : Channel) (level : ReadbackLevel)
  /-- SETTLE_EXPIRY (08 R136) of `channel`. -/
  | settleExpiry (channel : Channel)
  /-- MISMATCH_TIMER_EXPIRY (08 R137) of `channel`. -/
  | mismatchTimerExpiry (channel : Channel)
  /-- SCRUB_RECHECK (05 R85) of `record`; `agrees` says whether its contents and its check code agree
  (log 6). -/
  | scrubRecheck (record : ProtectedRecord) (agrees : Bool)
  deriving DecidableEq, Repr

end Sys2Proof
end

