-- ==== Sys2Proof/WellFormed.lean ====
section
/-! DEFINITION. Which terms of Instr spell a command of the part. -/

namespace Sys2Proof

/-- A request command read as the frame it stands for: kind code (11 R178), sequence number, payload. -/
structure RequestFrame where
  kind : Byte
  seq : Byte
  payload : List Byte
  deriving DecidableEq, Repr

/-- The request kind codes 01h to 0Fh (11 R178). -/
def requestKinds : List Byte :=
  [0x01#8, 0x02#8, 0x03#8, 0x04#8, 0x05#8, 0x06#8, 0x07#8, 0x08#8, 0x09#8, 0x0A#8, 0x0B#8, 0x0C#8, 0x0D#8,
   0x0E#8, 0x0F#8]

/-- Whether a kind code names one of the fifteen requests (11 R178). -/
def namesRequest (kind : Byte) : Bool := requestKinds.contains kind

namespace Instr

/-- The request frame a command stands for, if it is a request (11 R178, R179). -/
def frame? : Instr → Option RequestFrame
  | .powerOnReset => none
  | .brownOut => none
  | .powerOnResetEnd => none
  | .rstnAssert => none
  | .rstnRelease => none
  | .chipSelectAssert _ => none
  | .chipSelectRelease _ _ _ => none
  | .join _ q p => some ⟨0x01#8, q, p⟩
  | .leave _ q p _ => some ⟨0x02#8, q, p⟩
  | .keepalive _ q p => some ⟨0x03#8, q, p⟩
  | .propose _ q p _ => some ⟨0x04#8, q, p⟩
  | .veto _ q p => some ⟨0x05#8, q, p⟩
  | .support _ q p => some ⟨0x06#8, q, p⟩
  | .stageWrite _ q p => some ⟨0x07#8, q, p⟩
  | .stageSeal _ q p => some ⟨0x08#8, q, p⟩
  | .stageOpen _ q p => some ⟨0x09#8, q, p⟩
  | .readStaging _ q p => some ⟨0x0A#8, q, p⟩
  | .fetchNotices _ q p => some ⟨0x0B#8, q, p⟩
  | .readStatus _ q p => some ⟨0x0C#8, q, p⟩
  | .readChannels _ q p => some ⟨0x0D#8, q, p⟩
  | .readBallots _ q p => some ⟨0x0E#8, q, p⟩
  | .linkReset _ q p => some ⟨0x0F#8, q, p⟩
  | .unknownRequestKind _ k q p => some ⟨k, q, p⟩
  | .roundDeadlineExpiry _ => none
  | .leaseExpiry _ _ => none
  | .graceExpiry _ => none
  | .ballotLifetimeExpiry _ => none
  | .sealCompletion _ => none
  | .readbackLevelChange _ _ => none
  | .settleExpiry _ => none
  | .mismatchTimerExpiry _ => none
  | .scrubRecheck _ _ => none

/-- "a payload length of 0 to 256" (10 R164). -/
def payloadFits (i : Instr) : Bool :=
  match i.frame? with
  | some f => decide (f.payload.length ≤ 256)
  | none => true

/-- The unknown kind of UNKNOWN_REQUEST_KIND "names none of the fifteen request kinds" (10 R172). -/
def kindIsItsOwn : Instr → Bool
  | .unknownRequestKind _ k _ _ => !namesRequest k
  | _ => true

/-- A well-formed command. -/
def wellFormed (i : Instr) : Bool := i.payloadFits && i.kindIsItsOwn

end Instr

end Sys2Proof
end

