-- ==== Sys2Proof/Machine/State.lean ====
section
/-! DEFINITION. The state of the part as plain data, its value after reset, and the reasons a step can stop. -/

namespace Sys2Proof.Machine

/-- No command of this part stops it with a fault: every command has a next state (INVENTORY, Faults). No
constructor, so nothing raises one. -/
inductive Fault
  deriving DecidableEq, Repr

/-- The reasons a step can be refused. -/
inductive Refusal
  /-- A command that has no meaning yet: raised by an arm of exec only, never by a meaning. Safe. No arm raises
  it now. -/
  | notModelled (mnemonic : String)
  deriving DecidableEq, Repr

/-! ## Channels and the configuration -/

/-- The type of a channel (01 R1). -/
inductive ChannelType
  | unused
  | discrete
  | level
  deriving DecidableEq, Repr

/-- One channel entry of a configuration: its six fields (01 R3). -/
structure ChannelEntry where
  type : ChannelType
  fallback : Nat
  tolerance : Nat
  holdRounds : Nat
  settleTime : Nat
  readbackChecked : Bool
  deriving DecidableEq, Repr

/-- The record of the active configuration (07 R111): 64 channel entries and 12 member lists among its
fields. -/
structure ConfigRecord where
  enrolled : LaneSet
  quorum : Nat
  lease : Nat
  grace : Nat
  deadline : Nat
  strikeThreshold : Nat
  ballotLifetime : Nat
  entries : Table 64 ChannelEntry
  groups : Table 12 (List Channel)
  deriving DecidableEq, Repr

/-- The active configuration: a record with its digest (07 R111). -/
structure ActiveConfig where
  record : ConfigRecord
  digest : Digest
  deriving DecidableEq, Repr

/-- An addressed buffer of bytes: cells of strictly rising address, no listed byte 00h; an unlisted address
reads 00h, the value 07 R112 gives at reset. -/
abbrev Memory := List Host.Cell

/-- The pending record (07 R122): the image copied at the pass and its digest. -/
structure PendingRecord where
  image : Memory
  digest : Digest
  deriving DecidableEq, Repr

/-- The staging state of a staging area (07 R112). -/
inductive StagingState
  | opened
  | sealing
  | sealed
  deriving DecidableEq, Repr

/-- A staging area (07 R112). `sealTimer` holds what is left of the 3 ms within which a seal in flight
completes (07 R115). -/
structure StagingArea where
  image : Memory
  state : StagingState
  digest : Option Digest
  sealTimer : Timer
  deriving DecidableEq, Repr

/-! ## Device state controller -/

/-- The device state (05 R78). -/
inductive DeviceState
  | unconfigured
  | gathering
  | running
  | safeHold
  | lockout
  deriving DecidableEq, Repr

/-- The causes of LOCKOUT (05 R89). -/
inductive LockoutCause
  | storeCheck
  | evaluatorMismatch
  deriving DecidableEq, Repr

/-- The LOCKOUT record (05 R89). -/
structure LockoutRecord where
  cause : LockoutCause
  round : BitVec 16
  prior : DeviceState
  deriving DecidableEq, Repr

/-- The causes of STATE_CHANGE (05 R91). -/
inductive StateCause
  | firstSwitch
  | quorumReached
  | quorumLost
  | resumed
  | storeCheck
  | evaluatorMismatch
  deriving DecidableEq, Repr

/-! ## Vote engine -/

/-- The open-round state (02 R16). -/
inductive OpenRound
  | none
  | idle
  | collecting
  deriving DecidableEq, Repr

/-- A channel record (01 R5). -/
structure ChannelRecord where
  agreed : Nat
  hold : Nat
  stale : Bool
  withheld : Bool
  deriving DecidableEq, Repr

/-- One lane's row of the proposal table: each slot absent or a value (02 R17). -/
abbrev ProposalRow := Table 64 (Option Nat)

/-- The vote engine: round numbering and the open round (02 R15, R16), the proposal table and the proposer set
(R17), the deadline timer (R18), the channel records (01 R5). -/
structure VoteEngine where
  nextRound : BitVec 16
  openRound : OpenRound
  proposals : Table 4 ProposalRow
  proposers : LaneSet
  deadline : Timer
  channels : Table 64 ChannelRecord
  deriving DecidableEq, Repr

/-! ## Membership unit -/

/-- The lane state (04 R53). -/
inductive LaneState
  | absent
  | linked
  | candidate
  | voting
  | suspect
  | excluded
  deriving DecidableEq, Repr

/-- A lane record (04 R53). -/
structure LaneRecord where
  state : LaneState
  strikes : Nat
  lease : Timer
  grace : Timer
  returnPending : Bool
  rejoinRequested : Bool
  deriving DecidableEq, Repr

/-- The causes of MEMBER_CHANGE (04 section 4.2). -/
inductive MemberCause
  | joined
  | configured
  | admitted
  | leaseExpired
  | graceExpired
  | returned
  | strikes
  | left
  | readmitted
  | notEnrolled
  deriving DecidableEq, Repr

/-! ## Ballot unit -/

/-- The action of a ballot with its argument (06 R94). -/
inductive BallotAction
  | commitConfig (digest : Digest)
  | clearFault (channel : Channel)
  | readmit (lane : Lane)
  | resume
  deriving DecidableEq, Repr

/-- An open ballot, with the slot it holds (06 R94). -/
structure Ballot where
  slot : BallotSlot
  action : BallotAction
  supporters : LaneSet
  lifetime : Nat
  deriving DecidableEq, Repr

/-- The causes of BALLOT_ENDED (06 R108). -/
inductive BallotEnd
  | expired
  | abandoned
  | discarded
  deriving DecidableEq, Repr

/-! ## Output stage -/

/-- A drive value: "its number together with the channel's type" (01 R8, R10). -/
structure Drive where
  type : ChannelType
  value : Nat
  deriving DecidableEq, Repr

/-- What a channel line carries (08 R133): de-asserted or asserted steadily, or a pulse-width command whose
duty is a setpoint 1 to 999. -/
inductive Line
  | deasserted
  | asserted
  | pulse (setpoint : Nat)
  deriving DecidableEq, Repr

/-- The fault state of a channel (08 R139). -/
inductive FaultState
  | none
  | faulted
  | unsafeState
  deriving DecidableEq, Repr

/-- What the output stage keeps for a channel: drive value (01 R8), channel line (08 R133), readback level
(R134), fault state (R139), settle timer (R135), mismatch timer (R137). -/
structure ChannelOutput where
  drive : Drive
  line : Line
  readback : ReadbackLevel
  fault : FaultState
  settle : Timer
  mismatch : Timer
  deriving DecidableEq, Repr

/-- The output stage: one veto set for each lane (08 R128) and the channels. -/
structure OutputStage where
  vetoes : Table 4 ChannelSet
  channels : Table 64 ChannelOutput
  deriving DecidableEq, Repr

/-! ## Notice unit -/

/-- The body of a notice, one constructor for each kind (09 R148). -/
inductive NoticeBody
  | dissent (round : BitVec 16) (items : List (Channel × LaneSet))
  | unagreed (round : BitVec 16) (items : List (Channel × Bool))
  | withheld (round : BitVec 16) (items : List (Channel × GroupSet))
  | readbackFault (channel : Channel) (drive : Drive) (level : ReadbackLevel)
  | channelUnsafe (channel : Channel) (drive : Drive) (level : ReadbackLevel)
  | faultCleared (channel : Channel) (before : FaultState)
  | memberChange (lane : Lane) (before after : LaneState) (cause : MemberCause)
  | ballotPassed (slot : BallotSlot) (action : BallotAction) (supporters : LaneSet)
  | ballotEnded (slot : BallotSlot) (action : BallotAction) (cause : BallotEnd) (supporters : LaneSet)
  | configSwitched (old : Option Digest) (new : Digest)
  | stateChange (before after : DeviceState) (cause : StateCause)
  deriving DecidableEq, Repr

/-- An entry of the notice queue (09 R147); the kind is that of the body. -/
structure Notice where
  seq : BitVec 16
  stamp : BitVec 16
  body : NoticeBody
  deriving DecidableEq, Repr

/-- A reader's cursor and GAP mark (09 R149). -/
structure Reader where
  cursor : BitVec 16
  gap : Bool
  deriving DecidableEq, Repr

/-- The notice unit: the queue, oldest first, the next sequence number (09 R147), and for each lane its reader
record, `none` when the lane is no reader (R149). -/
structure NoticeUnit where
  queue : List Notice
  next : BitVec 16
  readers : Table 4 (Option Reader)
  deriving DecidableEq, Repr

/-! ## Lane link ports -/

/-- The processing outcomes (11 R178). -/
inductive Outcome
  | accepted
  | notConfigured
  | notRunning
  | round
  | late
  | alreadyProposed
  | badEntry
  | badRequest
  | notVoting
  | notEnrolled
  | digestMismatch
  | excluded
  | rejoining
  | ballotFull
  | notApplicable
  | stagingMismatch
  | switchPending
  | sealed
  | sealing
  | invalidConfig
  | lockout
  deriving DecidableEq, Repr

/-- The port outcomes (10 R165). -/
inductive PortOutcome
  | none
  | taken
  | queueFull
  | crcError
  | sequence
  | duplicate
  | lengthError
  deriving DecidableEq, Repr

/-- A complete response: its fixed fields (10 R168). -/
structure Response where
  kind : Byte
  seq : Byte
  outcome : Outcome
  payload : List Byte
  failn : Bool
  notices : Bool
  gap : Bool
  deriving DecidableEq, Repr

/-- A slot of a response queue (10 R168): a complete response, or the reservation of a seal in flight with the
kind and sequence number its response will echo. -/
inductive ResponseSlot
  | response (r : Response)
  | reservation (kind seq : Byte)
  deriving DecidableEq, Repr

/-- The transaction on a link (10 R161): none; the frame chosen at the assertion, as bytes, with whether it is
a queued response (R162); or one that a reset covers, for its whole length (R177). -/
inductive Transaction
  | none
  | shifting (frame : List Byte) (isResponse : Bool)
  | dead
  deriving DecidableEq, Repr

/-- A lane link port (10, opening paragraphs). -/
structure Port where
  expected : BitVec 8
  queue : List ResponseSlot
  outcome : PortOutcome
  outcomeSeq : Option Byte
  attn : Bool
  transaction : Transaction
  deriving DecidableEq, Repr

/-! ## The state -/

/-- The condition of the two resets (12 R185, R186): power-on reset in force; RSTN taken as asserted. -/
structure Power where
  supplyReset : Bool
  rstnLow : Bool
  deriving DecidableEq, Repr

/-- The state of the blocks the lanes share (00 section 1.3), all but the staging areas and the ports. Events
of these blocks are functions on `Blocks`, so that they cannot touch a staging area, a port, the reset
condition or the command queue. -/
structure Blocks where
  /-- the device state (05 R78) -/
  device : DeviceState
  /-- the LOCKOUT record, or none (05 R89) -/
  lockoutRecord : Option LockoutRecord
  /-- FAILN asserted (05 R90) -/
  failn : Bool
  /-- the vote engine -/
  vote : VoteEngine
  /-- the four lane records (04 R53) -/
  lanes : Table 4 LaneRecord
  /-- the open ballots in creation order, oldest first (06 R94) -/
  ballots : List Ballot
  /-- the active configuration, or none (07 R111) -/
  active : Option ActiveConfig
  /-- the pending record while the pending flag is set (07 R122) -/
  pendingRecord : Option PendingRecord
  /-- the output stage -/
  output : OutputStage
  /-- the notice unit -/
  notices : NoticeUnit
  deriving DecidableEq, Repr

/-- The state of the part, with the queue of the commands that wait, first in first out. `clock` counts idle
steps and feeds the free values of Config; `clock` and `pending` are the model's own (log 18). -/
structure State extends Blocks where
  power : Power
  staging : Table 4 StagingArea
  ports : Table 4 Port
  clock : Nat
  pending : List Instr
  deriving DecidableEq, Repr

/-! ## Reset values -/

/-- 01 R7: "every agreed value is OFF/0, every hold count is 0, and every STALE and WITHHELD flag is clear". -/
def ChannelRecord.reset : ChannelRecord := ⟨0, 0, false, false⟩

/-- An emptied row of the proposal table (02 R17). -/
def ProposalRow.empty : ProposalRow := Table.fill 64 none

/-- 02 R41. -/
def VoteEngine.reset : VoteEngine :=
  { nextRound := 1, openRound := .none, proposals := Table.fill 4 ProposalRow.empty, proposers := 0,
    deadline := none, channels := Table.fill 64 ChannelRecord.reset }

/-- 04 R53: ABSENT, strike count 0, both timers stopped, both flags clear. -/
def LaneRecord.reset : LaneRecord := ⟨.absent, 0, none, none, false, false⟩

/-- OFF/0 on an UNUSED channel (01 R2). -/
def Drive.off : Drive := ⟨.unused, 0⟩

/-- 01 R14, 08 R146; the readback level reads DE_ENERGIZED until its filter has passed (08 R134). -/
def ChannelOutput.reset : ChannelOutput :=
  { drive := Drive.off, line := .deasserted, readback := .deEnergized, fault := .none, settle := none,
    mismatch := none }

/-- 08 R146. -/
def OutputStage.reset : OutputStage :=
  { vetoes := Table.fill 4 0, channels := Table.fill 64 ChannelOutput.reset }

/-- 09 R147, R149: queue empty, next number 0, no readers. -/
def NoticeUnit.reset : NoticeUnit := { queue := [], next := 0, readers := Table.fill 4 none }

/-- 07 R112: 448 bytes of 00h, OPEN, no digest. -/
def StagingArea.reset : StagingArea := ⟨[], .opened, none, none⟩

/-- 10 R177. -/
def Port.reset : Port :=
  { expected := 0, queue := [], outcome := .none, outcomeSeq := none, attn := false, transaction := .none }

/-- The blocks after power-on reset (05 R92). -/
def Blocks.reset : Blocks :=
  { device := .unconfigured, lockoutRecord := none, failn := false, vote := VoteEngine.reset,
    lanes := Table.fill 4 LaneRecord.reset, ballots := [], active := none, pendingRecord := none,
    output := OutputStage.reset, notices := NoticeUnit.reset }

/-- The part right after power-on reset with RSTN high (05 R92), no transaction running, no command waiting. -/
def State.reset : State :=
  { Blocks.reset with
    power := ⟨false, false⟩, staging := Table.fill 4 StagingArea.reset, ports := Table.fill 4 Port.reset,
    clock := 0, pending := [] }

end Sys2Proof.Machine
end

