-- ==== Sys2Proof/Machine/Ops.lean ====
section
/-! DEFINITION. The addressed buffers (staging images), and the plain views of the blocks' registers. -/

namespace Sys2Proof.Machine

/-! ## Memory: the staging images (07 R112) -/

/-- The canonical form: addresses strictly rising, no listed byte 00h. -/
abbrev Memory.wf (m : Memory) : Prop := m.Pairwise (fun x y => x.1 < y.1) ∧ ∀ c ∈ m, c.2 ≠ 0#8

/-- The byte at an address; an unlisted address reads 00h (07 R112). -/
def Memory.read : Memory → Nat → Byte
  | [], _ => 0#8
  | (k, b) :: rest, a => if k = a then b else if a < k then 0#8 else Memory.read rest a

/-- The memory with one byte replaced. -/
def Memory.write : Memory → Nat → Byte → Memory
  | [], a, v => if v = 0#8 then [] else [(a, v)]
  | (k, b) :: rest, a, v =>
    if k < a then (k, b) :: Memory.write rest a v
    else
      let later := if k = a then rest else (k, b) :: rest
      if v = 0#8 then later else (a, v) :: later

/-- The memory with bytes replaced from an address onward. -/
def Memory.writeBytes : Memory → Nat → List Byte → Memory
  | m, _, [] => m
  | m, a, b :: bs => Memory.writeBytes (Memory.write m a b) (a + 1) bs

/-- `n` bytes from an address, in ascending order. -/
def Memory.bytes (m : Memory) (a n : Nat) : List Byte := (List.range n).map (fun i => Memory.read m (a + i))

/-- A one-byte field of an image, as a number. -/
def Memory.u8 (m : Memory) (a : Nat) : Nat := (Memory.read m a).toNat

/-- A two-byte field, "most significant byte first" (11 R178). -/
def Memory.u16 (m : Memory) (a : Nat) : Nat := Memory.u8 m a * 256 + Memory.u8 m (a + 1)

/-- The length of a staging image (07 R112). -/
def imageLength : Nat := 448

/-! ## The configuration in force -/

/-- The entry of an UNUSED channel: 0 in every field (01 R3). -/
def ChannelEntry.unusedEntry : ChannelEntry := ⟨.unused, 0, 0, 0, 0, false⟩

/-- What the blocks read while no configuration is active: no lane enrolled, "every channel has type UNUSED for
every purpose" (01 R1), no groups (03 R42). -/
def ConfigRecord.noneActive : ConfigRecord :=
  { enrolled := 0, quorum := 0, lease := 0, grace := 0, deadline := 0, strikeThreshold := 0, ballotLifetime := 0,
    entries := Table.fill 64 ChannelEntry.unusedEntry, groups := Table.fill 12 [] }

namespace Blocks

/-- The configuration the blocks work under. -/
def config (b : Blocks) : ConfigRecord :=
  match b.active with
  | some a => a.record
  | none => ConfigRecord.noneActive

/-- The entry of a channel (01 R3). -/
def entry (b : Blocks) (c : Channel) : ChannelEntry := b.config.entries.row c

/-- The type of a channel (01 R1). -/
def channelType (b : Blocks) (c : Channel) : ChannelType := (b.entry c).type

/-- The fallback value of a channel; OFF/0 while no configuration is active (01 R4). -/
def fallback (b : Blocks) (c : Channel) : Nat := (b.entry c).fallback

/-! ## Lanes -/

/-- The state of a lane (04 R53). -/
def laneState (b : Blocks) (l : Lane) : LaneState := (b.lanes.row l).state

/-- The lanes in VOTING state. -/
def votingLanes (b : Blocks) : LaneSet := IndexSet.ofPred (fun l => b.laneState l == .voting)

/-- The VOTING count (04 R54). -/
def votingCount (b : Blocks) : Nat := b.votingLanes.size

/-- A lane record replaced. -/
def setLane (b : Blocks) (l : Lane) (r : LaneRecord) : Blocks := { b with lanes := b.lanes.put l r }

/-- The lease of a lane started with the full lease length of the active configuration (04 R60). -/
def startLease (b : Blocks) (l : Lane) : Blocks :=
  b.setLane l { b.lanes.row l with lease := some b.config.lease }

/-- Ready for admission: CANDIDATE, or SUSPECT with return pending (04 R65). -/
def readyForAdmission (b : Blocks) (l : Lane) : Bool :=
  match b.laneState l with
  | .candidate => true
  | .suspect => (b.lanes.row l).returnPending
  | _ => false

/-- The device states in which lease and grace timers run (04 R60, R64). -/
def membershipTimersRun (b : Blocks) : Bool :=
  match b.device with
  | .gathering => true
  | .running => true
  | .safeHold => true
  | .unconfigured => false
  | .lockout => false

/-! ## Channels -/

/-- What the output stage keeps for a channel. -/
def channelOutput (b : Blocks) (c : Channel) : ChannelOutput := b.output.channels.row c

/-- What the output stage keeps for a channel, replaced. -/
def setChannelOutput (b : Blocks) (c : Channel) (o : ChannelOutput) : Blocks :=
  { b with output := { b.output with channels := b.output.channels.put c o } }

/-- The agreed value of a channel (01 R5). -/
def agreed (b : Blocks) (c : Channel) : Nat := (b.vote.channels.row c).agreed

/-- The fault state of a channel (08 R139). -/
def fault (b : Blocks) (c : Channel) : FaultState := (b.channelOutput c).fault

/-- The vetoing lanes of a channel (08 R128). -/
def vetoingLanes (b : Blocks) (c : Channel) : LaneSet :=
  IndexSet.ofPred (fun l => (b.output.vetoes.row l).has c)

/-- "A channel is vetoed while at least one lane's veto set holds it" (08 R128). -/
def vetoed (b : Blocks) (c : Channel) : Bool := (List.finRange 4).any (fun l => (b.output.vetoes.row l).has c)

/-- The unsafe set: the channels whose fault state is UNSAFE (08 R145). -/
def unsafeSet (b : Blocks) : ChannelSet := IndexSet.ofPred (fun c => b.fault c == .unsafeState)

end Blocks

end Sys2Proof.Machine
end

