-- ==== Sys2Proof/Machine/Formats.lean ====
section
/-! DEFINITION. The byte formats of chapter 11: codes, CRC-16 and CRC-32, request and response frames, response
payloads, notice entries. -/

namespace Sys2Proof.Machine

/-! ## Numbers and codes (11 R178) -/

/-- One byte of a number. -/
def byte (n : Nat) : Byte := BitVec.ofNat 8 n

/-- Two bytes, most significant first (11 R178). -/
def bytes16 (n : Nat) : List Byte := [byte (n / 256), byte n]

/-- Four bytes of a digest, most significant first (11 R184). -/
def bytes32 (d : Digest) : List Byte :=
  [d.extractLsb' 24 8, d.extractLsb' 16 8, d.extractLsb' 8 8, d.extractLsb' 0 8]

/-- A 16-bit number read most significant byte first. -/
def read16 (hi lo : Byte) : Nat := hi.toNat * 256 + lo.toNat

/-- A digest read most significant byte first. -/
def read32 (b3 b2 b1 b0 : Byte) : Digest := b3 ++ b2 ++ b1 ++ b0

/-- A lane set byte: bits 7 to 4 written as 0. -/
def laneSetByte (s : LaneSet) : Byte := BitVec.zeroExtend 8 s

/-- A flag as a bit at a position. -/
def flagBit (b : Bool) (pos : Nat) : Byte := if b then BitVec.twoPow 8 pos else 0#8

def Outcome.code : Outcome → Byte
  | .accepted => 0x01#8
  | .notConfigured => 0x02#8
  | .notRunning => 0x03#8
  | .round => 0x04#8
  | .late => 0x05#8
  | .alreadyProposed => 0x06#8
  | .badEntry => 0x07#8
  | .badRequest => 0x08#8
  | .notVoting => 0x09#8
  | .notEnrolled => 0x0A#8
  | .digestMismatch => 0x0B#8
  | .excluded => 0x0C#8
  | .rejoining => 0x0D#8
  | .ballotFull => 0x0E#8
  | .notApplicable => 0x0F#8
  | .stagingMismatch => 0x10#8
  | .switchPending => 0x11#8
  | .sealed => 0x12#8
  | .sealing => 0x13#8
  | .invalidConfig => 0x14#8
  | .lockout => 0x15#8

def PortOutcome.code : PortOutcome → Byte
  | .none => 0x00#8
  | .taken => 0x01#8
  | .queueFull => 0x02#8
  | .crcError => 0x03#8
  | .sequence => 0x04#8
  | .duplicate => 0x05#8
  | .lengthError => 0x06#8

def DeviceState.code : DeviceState → Byte
  | .unconfigured => 0x01#8
  | .gathering => 0x02#8
  | .running => 0x03#8
  | .safeHold => 0x04#8
  | .lockout => 0x05#8

def LaneState.code : LaneState → Byte
  | .absent => 0x01#8
  | .linked => 0x02#8
  | .candidate => 0x03#8
  | .voting => 0x04#8
  | .suspect => 0x05#8
  | .excluded => 0x06#8

def OpenRound.code : OpenRound → Byte
  | .none => 0x00#8
  | .idle => 0x01#8
  | .collecting => 0x02#8

def StagingState.code : StagingState → Byte
  | .opened => 0x01#8
  | .sealing => 0x02#8
  | .sealed => 0x03#8

def ChannelType.code : ChannelType → Byte
  | .unused => 0x00#8
  | .discrete => 0x01#8
  | .level => 0x02#8

def FaultState.code : FaultState → Byte
  | .none => 0x00#8
  | .faulted => 0x01#8
  | .unsafeState => 0x02#8

def levelCode : ReadbackLevel → Byte
  | .deEnergized => 0x00#8
  | .energized => 0x01#8

def BallotAction.code : BallotAction → Byte
  | .commitConfig _ => 0x01#8
  | .clearFault _ => 0x02#8
  | .readmit _ => 0x03#8
  | .resume => 0x04#8

/-- A ballot argument occupies four bytes (11 R178). -/
def BallotAction.argument : BallotAction → List Byte
  | .commitConfig d => bytes32 d
  | .clearFault c => [0x00#8, 0x00#8, 0x00#8, byte c.val]
  | .readmit l => [0x00#8, 0x00#8, 0x00#8, byte l.val]
  | .resume => [0x00#8, 0x00#8, 0x00#8, 0x00#8]

def BallotEnd.code : BallotEnd → Byte
  | .expired => 0x01#8
  | .abandoned => 0x02#8
  | .discarded => 0x03#8

def MemberCause.code : MemberCause → Byte
  | .joined => 0x01#8
  | .configured => 0x02#8
  | .admitted => 0x03#8
  | .leaseExpired => 0x04#8
  | .graceExpired => 0x05#8
  | .returned => 0x06#8
  | .strikes => 0x07#8
  | .left => 0x08#8
  | .readmitted => 0x09#8
  | .notEnrolled => 0x0A#8

def StateCause.code : StateCause → Byte
  | .firstSwitch => 0x01#8
  | .quorumReached => 0x02#8
  | .quorumLost => 0x03#8
  | .resumed => 0x04#8
  | .storeCheck => 0x05#8
  | .evaluatorMismatch => 0x06#8

def LockoutCause.code : LockoutCause → Byte
  | .storeCheck => 0x01#8
  | .evaluatorMismatch => 0x02#8

/-! ## CRC-16 and CRC-32 -/

/-- The bits of a byte, most significant first. -/
def bitsMsbFirst (b : Byte) : List Bool := (List.range 8).map (fun i => b.getLsbD (7 - i))

/-- The bits of a byte, least significant first. -/
def bitsLsbFirst (b : Byte) : List Bool := (List.range 8).map (fun i => b.getLsbD i)

/-- One bit into the CRC-16 register, polynomial 1021h (11 R179). -/
def crc16Bit (r : BitVec 16) (bit : Bool) : BitVec 16 :=
  if r.getLsbD 15 ^^ bit then (r <<< 1) ^^^ 0x1021#16 else r <<< 1

/-- One byte into the CRC-16 register, most significant bit first (11 R179). -/
def crc16Byte (r : BitVec 16) (b : Byte) : BitVec 16 := (bitsMsbFirst b).foldl crc16Bit r

/-- CRC-16: preset FFFFh, no reversal, no final inversion (11 R179). -/
def crc16 (bs : List Byte) : BitVec 16 := bs.foldl crc16Byte 0xFFFF#16

/-- The two CRC-16 bytes, "sent high byte first" (11 R179). -/
def crc16Bytes (bs : List Byte) : List Byte := [(crc16 bs).extractLsb' 8 8, (crc16 bs).extractLsb' 0 8]

/-- One bit into the CRC-32 register, polynomial 04C11DB7h (11 R184). -/
def crc32Bit (r : BitVec 32) (bit : Bool) : BitVec 32 :=
  if r.getLsbD 31 ^^ bit then (r <<< 1) ^^^ 0x04C11DB7#32 else r <<< 1

/-- One byte into the CRC-32 register, "least significant bit first" (11 R184). -/
def crc32Byte (r : BitVec 32) (b : Byte) : BitVec 32 := (bitsLsbFirst b).foldl crc32Bit r

/-- The digest: CRC-32 preset FFFFFFFFh, "the bit order of the result is reversed, and the result is inverted
at the end" (11 R184). -/
def crc32 (bs : List Byte) : Digest := ~~~(BitVec.reverse (bs.foldl crc32Byte 0xFFFFFFFF#32))

/-- The digest of an image: over its 448 bytes in ascending offset order (07 R120). -/
def imageDigest (m : Memory) : Digest := crc32 (Memory.bytes m 0 imageLength)

/-! ## Frames -/

/-- A request frame (11 R179). -/
def requestFrame (kind seq : Byte) (payload : List Byte) : List Byte :=
  let body := [kind, seq] ++ bytes16 payload.length ++ payload
  body ++ crc16Bytes body

/-- The flags byte of a frame header (11 R180). -/
def headerFlags (queued notices gap failn seqPresent : Bool) : Byte :=
  flagBit queued 0 ||| flagBit notices 1 ||| flagBit gap 2 ||| flagBit failn 3 ||| flagBit seqPresent 4

/-- A frame the part shifts out (11 R180): kind echo, answered sequence number, processing outcome, port
outcome with its sequence number, flags, payload, CRC-16. -/
def outgoingFrame (kind seq outcome : Byte) (port : PortOutcome) (portSeq : Option Byte)
    (queued notices gap failn : Bool) (payload : List Byte) : List Byte :=
  let body := [kind, seq, outcome, port.code, portSeq.getD 0x00#8,
    headerFlags queued notices gap failn portSeq.isSome] ++ bytes16 payload.length ++ payload
  body ++ crc16Bytes body

/-- The frame of a queued response at an assertion (10 R162, 11 R180). -/
def responseFrame (r : Response) (port : PortOutcome) (portSeq : Option Byte) (queued : Bool) : List Byte :=
  outgoingFrame r.kind r.seq r.outcome.code port portSeq queued r.notices r.gap r.failn r.payload

/-- A NONE frame (10 R162): kind NONE, no answered sequence number and no outcome, empty payload, GAP clear. -/
def noneFrame (port : PortOutcome) (portSeq : Option Byte) (queued notices failn : Bool) : List Byte :=
  outgoingFrame 0x00#8 0x00#8 0x00#8 port portSeq queued notices false failn []

/-! ## Notice entries (11 R183) -/

/-- The notice kind code. -/
def NoticeBody.code : NoticeBody → Byte
  | .dissent _ _ => 0x01#8
  | .unagreed _ _ => 0x02#8
  | .withheld _ _ => 0x03#8
  | .readbackFault _ _ _ => 0x04#8
  | .channelUnsafe _ _ _ => 0x05#8
  | .faultCleared _ _ => 0x06#8
  | .memberChange _ _ _ _ => 0x07#8
  | .ballotPassed _ _ _ => 0x08#8
  | .ballotEnded _ _ _ _ => 0x09#8
  | .configSwitched _ _ => 0x0A#8
  | .stateChange _ _ _ => 0x0B#8

/-- The body of a fault notice. -/
def faultBody (c : Channel) (d : Drive) (level : ReadbackLevel) : List Byte :=
  [byte c.val, d.type.code] ++ bytes16 d.value ++ [levelCode level]

/-- The body bytes of a notice. -/
def NoticeBody.bytes : NoticeBody → List Byte
  | .dissent round items =>
    bytes16 round.toNat ++ [byte items.length] ++ items.flatMap (fun i => [byte i.1.val, laneSetByte i.2])
  | .unagreed round items =>
    bytes16 round.toNat ++ [byte items.length] ++ items.map (fun i => byte i.1.val ||| flagBit i.2 7)
  | .withheld round items =>
    bytes16 round.toNat ++ [byte items.length]
      ++ items.flatMap (fun i => [byte i.1.val] ++ bytes16 i.2.toNat)
  | .readbackFault c d level => faultBody c d level
  | .channelUnsafe c d level => faultBody c d level
  | .faultCleared c before => [byte c.val, before.code]
  | .memberChange l before after cause => [byte l.val, before.code, after.code, cause.code]
  | .ballotPassed slot action supporters =>
    [byte slot.val, action.code] ++ action.argument ++ [laneSetByte supporters]
  | .ballotEnded slot action cause supporters =>
    [byte slot.val, action.code] ++ action.argument ++ [cause.code, laneSetByte supporters]
  | .configSwitched old new => [flagBit old.isSome 0] ++ bytes32 (old.getD 0) ++ bytes32 new
  | .stateChange before after cause => [before.code, after.code, cause.code]

/-- A notice entry: header of 6 bytes, then the body (11 R183). -/
def Notice.bytes (n : Notice) : List Byte :=
  bytes16 n.seq.toNat ++ [n.body.code] ++ bytes16 n.stamp.toNat ++ [byte n.body.bytes.length] ++ n.body.bytes

end Sys2Proof.Machine
end

