-- ==== Sys2Proof/Machine/Operands.lean ====
section
/-! DEFINITION. The operand forms: reading the payload of each request kind (10 R172, 11 R181). `none` is a malformed
payload, which the port answers BAD_REQUEST. -/

namespace Sys2Proof.Machine

/-- A channel number carried as a byte, if it is at most 63. -/
def channelOf? (n : Nat) : Option Channel := if h : n < 64 then some ⟨n, h⟩ else none

/-- A lane number carried as a byte, if it is at most 3. -/
def laneOf? (n : Nat) : Option Lane := if h : n < 4 then some ⟨n, h⟩ else none

/-- LEAVE, KEEPALIVE, STAGE_SEAL, STAGE_OPEN, READ_STATUS, READ_BALLOTS: empty. -/
def parseEmpty : List Byte → Option Unit
  | [] => some ()
  | _ :: _ => none

/-- JOIN: exactly one digest. -/
def parseJoin : List Byte → Option Digest
  | [b3, b2, b1, b0] => some (read32 b3 b2 b1 b0)
  | _ => none

/-- The entries of a PROPOSE: channel number, 1, and value, 2. -/
def proposeEntries : List Byte → List (Nat × Nat)
  | c :: hi :: lo :: rest => (c.toNat, read16 hi lo) :: proposeEntries rest
  | _ => []

/-- PROPOSE: round number, entry count 1 to 64, entries; length 3 + 3n. -/
def parsePropose : List Byte → Option (BitVec 16 × List (Nat × Nat))
  | hi :: lo :: n :: rest =>
    if 1 ≤ n.toNat ∧ n.toNat ≤ 64 ∧ rest.length = 3 * n.toNat then some (hi ++ lo, proposeEntries rest)
    else none
  | _ => none

/-- A veto action code: 01h SET (`true`), 02h CLEAR (`false`). -/
def vetoAction? (b : Byte) : Option Bool :=
  if b = 0x01#8 then some true else if b = 0x02#8 then some false else none

/-- The entries of a VETO: channel number, 1, and veto action, 1; `none` if an action code names neither. -/
def vetoEntries : List Byte → Option (List (Nat × Bool))
  | [] => some []
  | [_] => none
  | c :: a :: rest =>
    match vetoAction? a, vetoEntries rest with
    | some act, some entries => some ((c.toNat, act) :: entries)
    | _, _ => none

/-- VETO: entry count 1 to 64, entries; length 1 + 2n. -/
def parseVeto : List Byte → Option (List (Nat × Bool))
  | n :: rest =>
    if 1 ≤ n.toNat ∧ n.toNat ≤ 64 ∧ rest.length = 2 * n.toNat then vetoEntries rest else none
  | [] => none

/-- SUPPORT: ballot action and its argument; "the argument of RESUME is not examined" (0 to 4 bytes). -/
def parseSupport : List Byte → Option BallotAction
  | code :: arg =>
    if code = 0x01#8 then
      match arg with
      | [b3, b2, b1, b0] => some (.commitConfig (read32 b3 b2 b1 b0))
      | _ => none
    else if code = 0x02#8 then
      match arg with
      | [c] => (channelOf? c.toNat).map BallotAction.clearFault
      | _ => none
    else if code = 0x03#8 then
      match arg with
      | [l] => (laneOf? l.toNat).map BallotAction.readmit
      | _ => none
    else if code = 0x04#8 then
      if arg.length ≤ 4 then some .resume else none
    else none
  | [] => none

/-- STAGE_WRITE: offset, 2, and 1 to 192 bytes of data. -/
def parseStageWrite : List Byte → Option (Nat × List Byte)
  | hi :: lo :: data => if 1 ≤ data.length ∧ data.length ≤ 192 then some (read16 hi lo, data) else none
  | _ => none

/-- READ_STAGING from a lane: a lane number, or the requesting lane's own number with an offset and a length
1 to 192. -/
def parseReadStaging (requester : Lane) : List Byte → Option (Lane × Option (Nat × Nat))
  | [l] => (laneOf? l.toNat).map (fun lane => (lane, none))
  | [l, hi, lo, len] =>
    if l.toNat = requester.val ∧ 1 ≤ len.toNat ∧ len.toNat ≤ 192 then
      some (requester, some (read16 hi lo, len.toNat))
    else none
  | _ => none

/-- FETCH_NOTICES: maximum 1 to 6. -/
def parseFetch : List Byte → Option Nat
  | [m] => if 1 ≤ m.toNat ∧ m.toNat ≤ 6 then some m.toNat else none
  | _ => none

/-- READ_CHANNELS: first channel 0 to 63, count 1 to 32. -/
def parseReadChannels : List Byte → Option (Nat × Nat)
  | [f, n] => if f.toNat ≤ 63 ∧ 1 ≤ n.toNat ∧ n.toNat ≤ 32 then some (f.toNat, n.toNat) else none
  | _ => none

/-- The whole bytes of a transaction read as a request frame (10 R165 checks 1 and 2, 11 R179). -/
inductive FrameCheck
  | lengthError
  | crcError
  | good (f : RequestFrame)
  deriving DecidableEq, Repr

/-- Check 1 of 10 R165 asks that at least 6 + L bytes arrived, L at most 256, and every byte after the frame 00h;
check 2 that the CRC-16 carried equals the one computed over bytes 0 to 3 + L. -/
def checkFrame (bs : List Byte) : FrameCheck :=
  match bs with
  | kind :: seq :: hi :: lo :: rest =>
    let len := read16 hi lo
    if 256 < len ∨ rest.length < len + 2 ∨ (rest.drop (len + 2)).any (fun b => b != 0#8) then .lengthError
    else
      let payload := rest.take len
      if (rest.drop len).take 2 = crc16Bytes ([kind, seq, hi, lo] ++ payload) then .good ⟨kind, seq, payload⟩
      else .crcError
  | _ => .lengthError

/-- The sequence byte of a run of bytes "as it arrived, or none when too few bytes arrived to include it"
(10 R165). -/
def arrivedSeq (bs : List Byte) : Option Byte := bs[1]?

end Sys2Proof.Machine
end

