-- ==== Sys2Proof/Machine/Flags.lean ====
section
/-! DEFINITION. The conditions and indications the blocks compute: energized, disagreement, supervision, FAILN, unread
notices, ATTN, the reset condition. -/

namespace Sys2Proof.Machine

/-- A drive value is energized when it is ON or a setpoint above 0 (01 R2). -/
def Drive.energized (d : Drive) : Bool :=
  match d.type with
  | .unused => false
  | .discrete => decide (0 < d.value)
  | .level => decide (0 < d.value)

/-- What the channel line carries for a drive value (08 R133). -/
def Drive.line (d : Drive) : Line :=
  match d.type with
  | .unused => .deasserted
  | .discrete => if d.value = 0 then .deasserted else .asserted
  | .level => if d.value = 0 then .deasserted else if d.value < 1000 then .pulse d.value else .asserted

/-- The driven state and the readback level disagree (08 R135). -/
def ChannelOutput.disagrees (o : ChannelOutput) : Bool :=
  match o.drive.energized, o.readback with
  | true, .deEnergized => true
  | false, .energized => true
  | true, .energized => false
  | false, .deEnergized => false

/-- "A channel is settling while its settle timer runs" (08 R135). -/
def ChannelOutput.settling (o : ChannelOutput) : Bool := o.settle.isSome

namespace Blocks

/-- A channel is supervised while a configuration is active, its type is DISCRETE or LEVEL, and its entry sets
readback checked to yes (08 R135). -/
def supervised (b : Blocks) (c : Channel) : Bool :=
  b.channelType c != .unused && (b.entry c).readbackChecked

/-- The conditions under which the mismatch timer runs (08 R137). -/
def mismatchRuns (b : Blocks) (c : Channel) (o : ChannelOutput) : Bool :=
  b.supervised c && o.fault != .unsafeState && o.settle.isNone && o.disagrees

/-- The condition of FAILN: "in LOCKOUT or at least one channel's fault state is UNSAFE" (05 R90). -/
def failnCondition (b : Blocks) : Bool :=
  b.device == .lockout || (List.finRange 64).any (fun c => b.fault c == .unsafeState)

/-- FAILN re-evaluated (05 R90). -/
def updateFailn (b : Blocks) : Blocks := { b with failn := b.failnCondition }

end Blocks

/-- The unread count of a reader: "the next notice sequence number less the cursor, modulo 65536" (09 R149). -/
def NoticeUnit.unreadOf (n : NoticeUnit) (r : Reader) : Nat := (n.next - r.cursor).toNat

/-- The unread count of a lane, 0 for a lane that is no reader. -/
def NoticeUnit.unread (n : NoticeUnit) (l : Lane) : Nat :=
  match n.readers.row l with
  | some r => n.unreadOf r
  | none => 0

/-- The part is held in power-on reset or RSTN (12 R185, R186). -/
def State.inReset (s : State) : Bool := s.power.supplyReset || s.power.rstnLow

/-- The condition of a lane's ATTN line: its response queue is not empty, or it has unread notices (10 R170); low
while the part is held in reset (12 R185, R186). -/
def State.attnCondition (s : State) (l : Lane) : Bool :=
  !s.inReset && (!(s.ports.row l).queue.isEmpty || decide (0 < s.notices.unread l))

/-- The ATTN lines re-evaluated (10 R170). -/
def State.updateAttn (s : State) : State :=
  { s with ports := Table.build (fun l => { s.ports.row l with attn := s.attnCondition l }) }

/-- Whether SDOn is driven: from chip-select assertion to its release (10 R161); "SDOn is not driven" while power-on
reset is in force (12 R185, log 9). -/
def State.sdoDriven (s : State) (l : Lane) : Bool :=
  !s.power.supplyReset && (s.ports.row l).transaction != .none

/-- The byte the part shifts out at a position of the transaction: the frame's bytes, then fill bytes of 00h
(10 R161); fill bytes only in a transaction a reset covers (10 R177). -/
def State.shiftedOut (s : State) (l : Lane) (pos : Nat) : Byte :=
  match (s.ports.row l).transaction with
  | .shifting frame _ => frame.getD pos 0#8
  | .none => 0#8
  | .dead => 0#8

end Sys2Proof.Machine
end

