-- ==== Sys2Proof/Machine/Notices.lean ====
section
/-! DEFINITION. The notice unit (chapter 9): posting, overflow, readers, removal, fetching. -/

namespace Sys2Proof.Machine

/-- "The notice queue holds at most 48 entries" (09 R147). -/
def noticeDepth : Nat := 48

namespace NoticeUnit

/-- Overflow (09 R153): the oldest entry leaves; each reader whose cursor carried its number moves to the entry
that is now oldest, with its GAP mark set. -/
def overflow (n : NoticeUnit) : NoticeUnit :=
  match n.queue with
  | [] => n
  | oldest :: rest =>
    let nowOldest := match rest with
      | e :: _ => e.seq
      | [] => n.next
    { n with
      queue := rest
      readers := n.readers.mapRows (fun r => r.map (fun rd =>
        if rd.cursor = oldest.seq then ⟨nowOldest, true⟩ else rd)) }

/-- An entry appended with the next sequence number, which then advances modulo 65536 (09 R152). -/
def append (n : NoticeUnit) (stamp : BitVec 16) (body : NoticeBody) : NoticeUnit :=
  { n with queue := n.queue ++ [⟨n.next, stamp, body⟩], next := n.next + 1 }

/-- A posting (09 R152): overflow first when the queue holds 48 entries. -/
def post (n : NoticeUnit) (stamp : BitVec 16) (body : NoticeBody) : NoticeUnit :=
  if n.queue.length < noticeDepth then n.append stamp body else n.overflow.append stamp body

/-- The reader set is not empty. -/
def hasReaders (n : NoticeUnit) : Bool := (List.finRange 4).any (fun l => (n.readers.row l).isSome)

/-- The largest unread count of the readers: that of "the reader that lies furthest behind" (09 R154). -/
def maxUnread (n : NoticeUnit) : Nat := ((List.finRange 4).map (fun l => n.unread l)).foldl max 0

/-- Removal of every entry that every reader has passed, while there is a reader (09 R154). -/
def removePassed (n : NoticeUnit) : NoticeUnit :=
  if n.hasReaders then { n with queue := n.queue.drop (n.queue.length - n.maxUnread) } else n

/-- A lane joins the reader set: cursor just past the newest entry, GAP clear, then removal (09 R150, R154). -/
def joinReader (n : NoticeUnit) (l : Lane) : NoticeUnit :=
  removePassed { n with readers := n.readers.put l (some ⟨n.next, false⟩) }

/-- A lane leaves the reader set: cursor and GAP mark discarded, then removal (09 R151, R154). -/
def leaveReader (n : NoticeUnit) (l : Lane) : NoticeUnit :=
  removePassed { n with readers := n.readers.put l none }

/-- The unread entries of a lane, oldest first. -/
def unreadEntries (n : NoticeUnit) (l : Lane) : List Notice := n.queue.drop (n.queue.length - n.unread l)

/-- Whole entries in order, at most `maximum` of them and at most `room` bytes in all (09 R156). -/
def takeFitting : Nat → Nat → List Notice → List Notice
  | 0, _, _ => []
  | _ + 1, _, [] => []
  | maximum + 1, room, e :: rest =>
    if e.bytes.length ≤ room then e :: takeFitting maximum (room - e.bytes.length) rest else []

/-- The room for entries: the 256-byte payload less the 2 bytes that precede them (11 R183). -/
def fetchRoom : Nat := 254

/-- The entries a FETCH_NOTICES with a maximum returns to a lane (09 R156 step 1). -/
def fetched (n : NoticeUnit) (l : Lane) (maximum : Nat) : List Notice :=
  takeFitting maximum fetchRoom (n.unreadEntries l)

/-- The unit after a fetch: cursor advanced past the entries taken, GAP mark cleared, passed entries removed (09
R156 steps 3 to 5). -/
def afterFetch (n : NoticeUnit) (l : Lane) (maximum : Nat) : NoticeUnit :=
  match n.readers.row l with
  | none => n
  | some r =>
    removePassed { n with
      readers := n.readers.put l (some ⟨r.cursor + BitVec.ofNat 16 (n.fetched l maximum).length, false⟩) }

/-- The GAP mark of a lane. -/
def gapOf (n : NoticeUnit) (l : Lane) : Bool :=
  match n.readers.row l with
  | none => false
  | some r => r.gap

end NoticeUnit

/-- The last ended round number: "one less than the next round number, modulo 65536" (02 R15). -/
def VoteEngine.lastEnded (v : VoteEngine) : BitVec 16 := v.nextRound - 1

/-- A block posts a notice, stamped with the last ended round number (09 R147, R152). -/
def Blocks.post (b : Blocks) (body : NoticeBody) : Blocks :=
  { b with notices := b.notices.post b.vote.lastEnded body }

/-- Several notices posted in order. -/
def Blocks.postAll (b : Blocks) (bodies : List NoticeBody) : Blocks := bodies.foldl Blocks.post b

end Sys2Proof.Machine
end

