-- ==== Sys2Proof/Machine/Outputs.lean ====
section
/-! DEFINITION. The output stage (01 section 1.5, chapter 8): drive values, channel lines, vetoes, readback
supervision, channel failure and the clearing of a fault. -/

namespace Sys2Proof.Machine

/-- The line and drive of a channel after a recomputation (01 R10, 08 R135): a change of type or number drives
the line and starts or restarts the settle timer; the settle of a channel that becomes UNUSED ends within the
event. -/
def ChannelOutput.driveTo (o : ChannelOutput) (d : Drive) (settleTime : Nat) : ChannelOutput :=
  if o.drive = d then o
  else
    { o with
      drive := d
      line := d.line
      settle := match d.type with
        | .unused => none
        | .discrete => some settleTime
        | .level => some settleTime }

namespace Blocks

/-- The drive value by condition (01 R8): the agreed value when the device is RUNNING, the fault state is NONE and
no lane holds a veto; otherwise the fallback value; OFF/0 when the channel is UNUSED or no configuration is
active. -/
def driveOf (b : Blocks) (c : Channel) : Drive :=
  match b.channelType c with
  | .unused => Drive.off
  | t =>
    if b.device = .running ∧ b.fault c = .none ∧ b.vetoed c = false then ⟨t, b.agreed c⟩
    else ⟨t, b.fallback c⟩

/-- The mismatch timer of a channel started, kept or stopped by the conditions of 08 R137. -/
def superviseOutput (b : Blocks) (c : Channel) (o : ChannelOutput) : ChannelOutput :=
  { o with
    mismatch :=
      if b.mismatchRuns c o then
        match o.mismatch with
        | some t => some t
        | none => some (b.entry c).settleTime
      else none }

/-- A channel's drive value recomputed and its supervision re-evaluated. -/
def refreshedOutput (b : Blocks) (c : Channel) : ChannelOutput :=
  b.superviseOutput c ((b.channelOutput c).driveTo (b.driveOf c) (b.entry c).settleTime)

/-- The output stage takes an event as one change of its inputs: each channel is recomputed once, from the state
after the whole event (01 R9, R10). Recomputing a channel whose inputs did not change leaves it as it was
(log 14). -/
def refreshOutputs (b : Blocks) : Blocks :=
  { b with output := { b.output with channels := Table.build (fun c => b.refreshedOutput c) } }

/-- One channel recomputed: the event changed the inputs of this channel alone (01 R9). -/
def refreshChannel (b : Blocks) (c : Channel) : Blocks := b.setChannelOutput c (b.refreshedOutput c)

/-- A veto set dropped, emptied whole (08 R131); the recomputation is the caller's. -/
def dropVetoes (b : Blocks) (l : Lane) : Blocks :=
  { b with output := { b.output with vetoes := b.output.vetoes.put l 0 } }

/-- A fault state written. -/
def setFault (b : Blocks) (c : Channel) (f : FaultState) : Blocks :=
  b.setChannelOutput c { b.channelOutput c with fault := f }

/-- A channel fails (08 R139): from NONE it goes FAULTED, its drive is recomputed and READBACK_FAULT posted; from
FAULTED it goes UNSAFE, its mismatch timer stops, CHANNEL_UNSAFE is posted and FAILN re-evaluated; in UNSAFE nothing
happens. The notice carries the drive value and readback level at the failure (R144). -/
def failChannel (b : Blocks) (c : Channel) : Blocks :=
  let o := b.channelOutput c
  match o.fault with
  | .none => ((b.setFault c .faulted).refreshChannel c).post (.readbackFault c o.drive o.readback)
  | .faulted =>
    (((b.setFault c .unsafeState).refreshChannel c).post (.channelUnsafe c o.drive o.readback)).updateFailn
  | .unsafeState => b

/-- A settle timer that runs expires (08 R136). -/
def settleExpires (b : Blocks) (c : Channel) : Blocks :=
  let o := { b.channelOutput c with settle := none }
  if b.supervised c && o.fault != .unsafeState && o.disagrees then (b.setChannelOutput c o).failChannel c
  else b.setChannelOutput c (b.superviseOutput c o)

/-- A mismatch timer that runs expires: the channel fails (08 R137). The timer is consumed; a failure that leaves
the disagreement standing outside a settle window starts it again (R139). -/
def mismatchExpires (b : Blocks) (c : Channel) : Blocks :=
  (b.setChannelOutput c { b.channelOutput c with mismatch := none }).failChannel c

/-- A change of a channel's readback level (08 R134, R137). -/
def readbackChanges (b : Blocks) (c : Channel) (level : ReadbackLevel) : Blocks :=
  let o := { b.channelOutput c with readback := level }
  b.setChannelOutput c (b.superviseOutput c o)

/-- The output stage clears a channel (08 R143): fault state NONE, FAULT_CLEARED, recomputation and supervision,
FAILN. -/
def clearFault (b : Blocks) (c : Channel) : Blocks :=
  let before := b.fault c
  (((b.setFault c .none).post (.faultCleared c before)).refreshChannel c).updateFailn

/-- The entries of an accepted VETO applied in list order to the lane's veto set (08 R130). -/
def applyVetoes (set : ChannelSet) : List (Channel × Bool) → ChannelSet
  | [] => set
  | (c, true) :: rest => applyVetoes (set.insert c) rest
  | (c, false) :: rest => applyVetoes (set.erase c) rest

/-- The first bad entry of a VETO or PROPOSE, counted from 0 (02 R21, 08 R129), or the entries with their
channels. `bad` says whether a named channel and its datum are refused; a channel named before is bad. -/
def checkEntries {α : Type} (bad : Channel → α → Bool) :
    Nat → List Channel → List (Nat × α) → Nat ⊕ List (Channel × α)
  | _, _, [] => .inr []
  | i, seen, (n, x) :: rest =>
    match channelOf? n with
    | none => .inl i
    | some c =>
      if seen.contains c || bad c x then .inl i
      else
        match checkEntries bad (i + 1) (c :: seen) rest with
        | .inl j => .inl j
        | .inr good => .inr ((c, x) :: good)

/-- A bad VETO entry, its channel being at most 63 and not repeated: the channel is UNUSED (08 R129). -/
def badVeto (b : Blocks) (c : Channel) (_set : Bool) : Bool := b.channelType c == .unused

/-- An accepted VETO (08 R130): the entries applied, then the affected drive values recomputed once. -/
def acceptVeto (b : Blocks) (l : Lane) (entries : List (Channel × Bool)) : Blocks :=
  { b with output := { b.output with
      vetoes := b.output.vetoes.put l (applyVetoes (b.output.vetoes.row l) entries) } }.refreshOutputs

end Blocks

end Sys2Proof.Machine
end

