-- ==== Sys2Proof/Machine/Vote.lean ====
section
/-! DEFINITION. The vote engine (chapters 2 and 3): evaluation, exclusion resolution, commit, and the round's opening,
discard and abandonment. -/

namespace Sys2Proof.Machine

/-! ## Evaluation (02 R28 to R33) -/

/-- A value inserted into an ascending list; equal values are kept. -/
def insertSorted (v : Nat) : List Nat → List Nat
  | [] => [v]
  | w :: rest => if v ≤ w then v :: w :: rest else w :: insertSorted v rest

/-- The values in ascending order (02 R30). -/
def sortValues : List Nat → List Nat
  | [] => []
  | v :: rest => insertSorted v (sortValues rest)

/-- The median: the middle value when the count is odd, the lower of the two middle values when it is even (02
R30). -/
def median (values : List Nat) : Option Nat := (sortValues values)[(values.length - 1) / 2]?

/-- The difference of two values taken as a positive number. -/
def distance (v w : Nat) : Nat := if v ≤ w then w - v else v - w

/-- The outcome of a DISCRETE channel (02 R29). -/
def judgeDiscrete (quorum : Nat) (values : List Nat) : RoundOutcome :=
  if quorum ≤ values.count 1 then .agreed 1
  else if quorum ≤ values.count 0 then .agreed 0
  else .noQuorum

/-- The outcome of a LEVEL channel (02 R30). -/
def judgeLevel (quorum tolerance : Nat) (values : List Nat) : RoundOutcome :=
  match median values with
  | none => .noQuorum
  | some m => if quorum ≤ values.countP (fun v => distance v m ≤ tolerance) then .agreed m else .noQuorum

/-- A present value disagrees with an agreed value (02 R33). -/
def disagreesWith (e : ChannelEntry) (agreedValue v : Nat) : Bool :=
  match e.type with
  | .unused => false
  | .discrete => v != agreedValue
  | .level => decide (e.tolerance < distance v agreedValue)

namespace Blocks

/-- The lanes whose rows are evaluation inputs: in the proposer set and VOTING at the close (02 R27). -/
def inputLanes (b : Blocks) : LaneSet := b.vote.proposers &&& b.votingLanes

/-- The present values of a channel with their lanes (02 R28). -/
def presentValues (b : Blocks) (c : Channel) : List (Lane × Nat) :=
  b.inputLanes.members.filterMap (fun l => ((b.vote.proposals.row l).row c).map (fun v => (l, v)))

/-- The outcome of a channel (02 R28 to R30). -/
def outcomeOf (b : Blocks) (c : Channel) : RoundOutcome :=
  let values := (b.presentValues c).map Prod.snd
  match b.channelType c with
  | .unused => .notEvaluated
  | .discrete => judgeDiscrete b.config.quorum values
  | .level => judgeLevel b.config.quorum (b.entry c).tolerance values

/-- The new hold count (02 R31, R32). -/
def newHold (b : Blocks) (c : Channel) : Nat :=
  match b.outcomeOf c with
  | .notEvaluated => (b.vote.channels.row c).hold
  | .agreed _ => 0
  | .noQuorum => min ((b.vote.channels.row c).hold + 1) ((b.entry c).holdRounds + 1)

/-- The candidate value (02 R28, R31, R32). -/
def candidate (b : Blocks) (c : Channel) : Nat :=
  match b.outcomeOf c with
  | .notEvaluated => 0
  | .agreed v => v
  | .noQuorum => if b.newHold c ≤ (b.entry c).holdRounds then b.agreed c else b.fallback c

/-- The new STALE flag (02 R31, R32). -/
def newStale (b : Blocks) (c : Channel) : Bool :=
  match b.outcomeOf c with
  | .notEvaluated => (b.vote.channels.row c).stale
  | .agreed _ => false
  | .noQuorum => if b.newHold c ≤ (b.entry c).holdRounds then (b.vote.channels.row c).stale else true

/-- The dissenting-lane set of a channel (02 R33). -/
def dissentOn (b : Blocks) (c : Channel) : LaneSet :=
  match b.outcomeOf c with
  | .notEvaluated => 0
  | .noQuorum => 0
  | .agreed v =>
    ((b.presentValues c).filter (fun p => disagreesWith (b.entry c) v p.2)).foldl (fun s p => s.insert p.1) 0

end Blocks

/-! ## Exclusion resolution (03 R45, R46) -/

/-- P: the member that is ON in the previous agreed image, or none (03 R45). -/
def groupHolder (previous : Channel → Nat) (members : List Channel) : Option Channel :=
  members.find? (fun c => previous c == 1)

/-- C: the members whose candidate value is ON (03 R45). -/
def groupRisers (candidates : Channel → Nat) (members : List Channel) : List Channel :=
  members.filter (fun c => candidates c == 1)

/-- A group withholds a channel (03 R45): C has two or more members, the channel is in C and is not P. -/
def groupWithholds (previous candidates : Channel → Nat) (members : List Channel) (c : Channel) : Bool :=
  let risers := groupRisers candidates members
  decide (2 ≤ risers.length) && risers.contains c && groupHolder previous members != some c

/-- The groups that withhold a channel, each judged from the candidate values and the previous agreed image alone
(03 R46). -/
def withholdingGroups (groups : Table 12 (List Channel)) (previous candidates : Channel → Nat) (c : Channel) :
    GroupSet :=
  IndexSet.ofPred (fun g => groupWithholds previous candidates (groups.row g) c)

/-- The resolved value: the previous agreed value of a withheld channel, the candidate value of any other (03
R46, 02 R35). -/
def resolvedValue (groups : Table 12 (List Channel)) (previous candidates : Channel → Nat) (c : Channel) : Nat :=
  if withholdingGroups groups previous candidates c = 0 then candidates c else previous c

namespace Blocks

/-- One evaluator's result for a channel (02 R37). -/
def evaluateChannel (b : Blocks) (c : Channel) : ChannelResult :=
  { outcome := b.outcomeOf c
    candidate := b.candidate c
    hold := b.newHold c
    stale := b.newStale c
    dissent := b.dissentOn c
    withheldBy := withholdingGroups b.config.groups b.agreed b.candidate c
    resolved := resolvedValue b.config.groups b.agreed b.candidate c }

/-- The evaluation of the open round: the results of every channel and the dissent report, which covers each lane
that is VOTING at the close and in the proposer set (02 R34, R37). -/
def evaluate (b : Blocks) : Evaluation :=
  let channels : Table 64 ChannelResult := Table.build b.evaluateChannel
  { channels := channels
    report := b.inputLanes.members.map
      (fun l => (l, (List.finRange 64).any (fun c => (channels.row c).dissent.has l))) }

/-- The two results agree "when every one of these items is equal in both" (02 R37). `evalB` is what the second
evaluator delivers when it is not the same computation (log 5). The items R37 and 03 section 3.3 name of resolution are
the resolved values and the WITHHELD flags; that the withholding-group sets are compared as well is the model's choice
(log 28). -/
def evaluatorsAgree (b : Blocks) (evalB : Option Evaluation) : Bool :=
  match evalB with
  | none => true
  | some e => decide (b.evaluate = e)

/-! ## Commit and round notices (02 R35, R36) -/

/-- The channel record a commit writes; an UNUSED channel keeps all but its WITHHELD flag (01 R6, 02 R28, 03
R49). -/
def committedRecord (b : Blocks) (e : Evaluation) (c : Channel) : ChannelRecord :=
  let r := e.channels.row c
  let withheld := r.withheldBy != 0
  match r.outcome with
  | .notEvaluated => { b.vote.channels.row c with withheld := withheld }
  | .agreed _ => ⟨r.resolved, r.hold, r.stale, withheld⟩
  | .noQuorum => ⟨r.resolved, r.hold, r.stale, withheld⟩

/-- The proposal table and proposer set emptied (02 R17). -/
def emptyProposals (v : VoteEngine) : VoteEngine :=
  { v with proposals := Table.fill 4 ProposalRow.empty, proposers := 0 }

/-- The vote engine opens the round carrying the next round number, in OPEN_IDLE, with an empty table (02 R16,
R17). -/
def openNextRound (b : Blocks) : Blocks :=
  { b with vote := { emptyProposals b.vote with openRound := .idle, deadline := none } }

/-- The DISSENT items: channels with a non-empty dissenting-lane set, ascending (02 R36). -/
def dissentItems (e : Evaluation) : List (Channel × LaneSet) :=
  (List.finRange 64).filterMap (fun c =>
    if (e.channels.row c).dissent = 0 then none else some (c, (e.channels.row c).dissent))

/-- The UNAGREED items: NO_QUORUM channels, ascending, each with whether it is STALE after the round (02 R36). -/
def unagreedItems (e : Evaluation) : List (Channel × Bool) :=
  (List.finRange 64).filterMap (fun c =>
    if (e.channels.row c).outcome = .noQuorum then some (c, (e.channels.row c).stale) else none)

/-- The WITHHELD items: withheld channels, ascending, each with its withholding-group set (03 R50). -/
def withheldItems (e : Evaluation) : List (Channel × GroupSet) :=
  (List.finRange 64).filterMap (fun c =>
    if (e.channels.row c).withheldBy = 0 then none else some (c, (e.channels.row c).withheldBy))

/-- The round notices of a commit, in order (02 R36). -/
def roundNotices (round : BitVec 16) (e : Evaluation) : List NoticeBody :=
  (if (dissentItems e).isEmpty then [] else [.dissent round (dissentItems e)])
    ++ (if (unagreedItems e).isEmpty then [] else [.unagreed round (unagreedItems e)])
    ++ (if (withheldItems e).isEmpty then [] else [.withheld round (withheldItems e)])

/-- The round commit of an evaluation (02 R27 steps 1, 5 and 6, R35, R36): channel records written, drives
recomputed once, the next round number advanced, the table emptied, the next round open in OPEN_IDLE, the round
notices posted. -/
def commitRound (b : Blocks) (e : Evaluation) : Blocks :=
  let closed := b.vote.nextRound
  let committed := ({ b with vote := { b.vote with
      channels := Table.build (b.committedRecord e), deadline := none } }).refreshOutputs
  let advanced := { committed with vote := { committed.vote with nextRound := closed + 1 } }
  advanced.openNextRound.postAll (roundNotices closed e)

/-! ## Rounds that end without a close (02 R39, R40) -/

/-- The fallback image written into the agreed image; hold counts and flags keep their values (01 R6). -/
def writeFallbackImage (b : Blocks) : Blocks :=
  { b with vote := { b.vote with
      channels := Table.build (fun c => { b.vote.channels.row c with agreed := b.fallback c }) } }

/-- The open round discarded, its number consumed; nothing when no round is open (02 R39). -/
def discardRound (b : Blocks) : Blocks :=
  match b.vote.openRound with
  | .none => b
  | _ => { b with vote := { emptyProposals b.vote with
      nextRound := b.vote.nextRound + 1, openRound := .none, deadline := none } }

/-- The open round abandoned: the deadline stops, the table and proposer set are kept, the number does not advance
(02 R38, R40). At a mismatched close the rows of proposers that are no longer VOTING are kept too, as R38 keeps the rows
of the failed round, where R26 and R27 discard them: the model's choice (log 27). -/
def abandonRound (b : Blocks) : Blocks :=
  { b with vote := { b.vote with openRound := .none, deadline := none } }

/-! ## Completeness and PROPOSE (02 R19 to R23) -/

/-- "every lane in VOTING state is in the proposer set" (02 R23). -/
def complete (b : Blocks) : Bool := decide (b.votingLanes &&& ~~~b.vote.proposers = 0)

/-- The value lies outside the domain of the channel's type, or the channel is UNUSED (02 R21). -/
def badProposal (b : Blocks) (c : Channel) (v : Nat) : Bool :=
  match b.channelType c with
  | .unused => true
  | .discrete => decide (1 < v)
  | .level => decide (1000 < v)

/-- The row a proposal stores: each listed value at its channel, every other slot absent (02 R19). -/
def proposalRow : List (Channel × Nat) → ProposalRow
  | [] => ProposalRow.empty
  | (c, v) :: rest => (proposalRow rest).put c (some v)

/-- An accepted proposal stored: row, proposer set, and for the first of the round OPEN_COLLECTING with the deadline
started (02 R18, R19). -/
def storeProposal (b : Blocks) (l : Lane) (entries : List (Channel × Nat)) : Blocks :=
  let stored := { b.vote with
    proposals := b.vote.proposals.put l (proposalRow entries)
    proposers := b.vote.proposers.insert l }
  match b.vote.openRound with
  | .idle => { b with vote := { stored with openRound := .collecting, deadline := some b.config.deadline } }
  | .none => { b with vote := stored }
  | .collecting => { b with vote := stored }

end Blocks

end Sys2Proof.Machine
end

