-- ==== Sys2Proof/Machine/Image.lean ====
section
/-! DEFINITION. The staging image (11 R184): its fields, the validity checks of a seal (07 R119), and the record decoded
from it. -/

namespace Sys2Proof.Machine

/-- The reasons of INVALID_CONFIG (11 R178). -/
inductive InvalidReason
  | enrolled
  | quorum
  | lease
  | grace
  | deadline
  | strikes
  | lifetime
  | channel
  | groupMember
  | groupFallback
  | reserved
  deriving DecidableEq, Repr

def InvalidReason.code : InvalidReason → Byte
  | .enrolled => 0x01#8
  | .quorum => 0x02#8
  | .lease => 0x03#8
  | .grace => 0x04#8
  | .deadline => 0x05#8
  | .strikes => 0x06#8
  | .lifetime => 0x07#8
  | .channel => 0x08#8
  | .groupMember => 0x09#8
  | .groupFallback => 0x0A#8
  | .reserved => 0x0B#8

/-- A failed check: its reason and index (07 R119). -/
structure InvalidConfig where
  reason : InvalidReason
  index : Nat
  deriving DecidableEq, Repr

/-! ## Fields (11 R184) -/

/-- The enrolled set: bit n for lane n. -/
def imageEnrolled (m : Memory) : LaneSet := BitVec.truncate 4 (Memory.read m 0)

/-- Q. -/
def imageQuorum (m : Memory) : Nat := Memory.u8 m 1

/-- The ballot lifetime in ms. -/
def imageLifetime (m : Memory) : Nat := Memory.u16 m 7

/-- The offset of the entry of channel `c`. -/
def entryOffset (c : Nat) : Nat := 16 + 5 * c

/-- The offset of group `g`. -/
def groupOffset (g : Nat) : Nat := 336 + 9 * g

/-- The type of a code: 00h UNUSED, 01h DISCRETE, 02h LEVEL; any other names none. -/
def typeOfCode? (b : Byte) : Option ChannelType :=
  if b = 0x00#8 then some .unused
  else if b = 0x01#8 then some .discrete
  else if b = 0x02#8 then some .level
  else none

/-- The entry of channel `c` as the image carries it, its type code aside. -/
def imageEntry (m : Memory) (c : Nat) (t : ChannelType) : ChannelEntry :=
  { type := t
    fallback := Memory.u16 m (entryOffset c + 1) % 32768
    tolerance := Memory.u8 m (entryOffset c + 3)
    holdRounds := Memory.u8 m (entryOffset c + 4) / 16
    settleTime := Memory.u8 m (entryOffset c + 4) % 16
    readbackChecked := decide (32768 ≤ Memory.u16 m (entryOffset c + 1)) }

/-- The member count of group `g`. -/
def groupCount (m : Memory) (g : Nat) : Nat := Memory.u8 m (groupOffset g)

/-- The member bytes of group `g`: as many as the count, up to the eighth. -/
def groupMembers (m : Memory) (g : Nat) : List Nat :=
  (List.range (min (groupCount m g) 8)).map (fun k => Memory.u8 m (groupOffset g + 1 + k))

/-! ## Validity checks (07 R119, R121, 03 R43) -/

/-- The ranges of the fields of an entry, by its type (01 R3). -/
def entryInRange (e : ChannelEntry) : Bool :=
  match e.type with
  | .unused =>
    e.fallback == 0 && e.tolerance == 0 && e.holdRounds == 0 && e.settleTime == 0 && !e.readbackChecked
  | .discrete =>
    decide (e.fallback ≤ 1) && e.tolerance == 0 && decide (e.holdRounds ≤ 15) && decide (1 ≤ e.settleTime)
      && decide (e.settleTime ≤ 15)
  | .level =>
    decide (e.fallback ≤ 1000) && decide (e.tolerance ≤ 100) && decide (e.holdRounds ≤ 15)
      && decide (1 ≤ e.settleTime) && decide (e.settleTime ≤ 15)

/-- Check 8 for one channel. -/
def channelValid (m : Memory) (c : Nat) : Bool :=
  match typeOfCode? (Memory.read m (entryOffset c)) with
  | none => false
  | some t => entryInRange (imageEntry m c t)

/-- Checks 2 and 3 of 03 R43 for one member: a channel at most 63 whose type in the image is DISCRETE. -/
def memberIsDiscrete (m : Memory) (n : Nat) : Bool :=
  decide (n ≤ 63) && Memory.read m (entryOffset n) == 0x01#8

/-- Checks 2 to 4 of 03 R43 over a member list, `seen` being the members before. -/
def membersValid (m : Memory) : List Nat → List Nat → Bool
  | _, [] => true
  | seen, n :: rest => memberIsDiscrete m n && !seen.contains n && membersValid m (n :: seen) rest

/-- The checks of 03 R43 for one group. -/
def checkGroup (m : Memory) (g : Nat) : Option InvalidConfig :=
  if 8 < groupCount m g then some ⟨.groupMember, g⟩
  else if !membersValid m [] (groupMembers m g) then some ⟨.groupMember, g⟩
  else if (groupMembers m g).any (fun n => (imageEntry m n .discrete).fallback != 0) then
    some ⟨.groupFallback, g⟩
  else none

/-- The reserved bytes in ascending offset order: 9 to 15, the member bytes from each group's count onward, 444 to
447 (11 R184). -/
def reservedOffsets (m : Memory) : List Nat :=
  (List.range 7).map (· + 9)
    ++ (List.range 12).flatMap (fun g =>
        ((List.range 8).drop (groupCount m g)).map (fun k => groupOffset g + 1 + k))
    ++ (List.range 4).map (· + 444)

/-- The first failing check of a list. -/
def firstFailure : List (Option InvalidConfig) → Option InvalidConfig
  | [] => none
  | some f :: _ => some f
  | none :: rest => firstFailure rest

/-- Check fails with a reason and index 0 unless the condition holds. -/
def require (ok : Bool) (reason : InvalidReason) : Option InvalidConfig := if ok then none else some ⟨reason, 0⟩

/-- The validity checks of a seal in their order; the first failure ends them (07 R119). -/
def validate (m : Memory) : Option InvalidConfig :=
  let enrolledCount := IndexSet.size (imageEnrolled m)
  firstFailure (
    [ require (decide (2 ≤ enrolledCount) && decide (Memory.u8 m 0 < 16)) .enrolled,
      require (decide (enrolledCount < 2 * imageQuorum m) && decide (imageQuorum m ≤ enrolledCount)) .quorum,
      require (decide (5 ≤ Memory.u8 m 2)) .lease,
      require (decide (10 ≤ Memory.u16 m 3) && decide (Memory.u16 m 3 ≤ 2000)) .grace,
      require (decide (2 ≤ Memory.u8 m 5) && decide (Memory.u8 m 5 ≤ 100)) .deadline,
      require (decide (1 ≤ Memory.u8 m 6) && decide (Memory.u8 m 6 ≤ 15)) .strikes,
      require (decide (20 ≤ imageLifetime m) && decide (imageLifetime m ≤ 5000)) .lifetime ]
    ++ (List.range 64).map (fun c => if channelValid m c then none else some ⟨.channel, c⟩)
    ++ (List.range 12).map (checkGroup m)
    ++ (reservedOffsets m).map (fun a => if Memory.read m a = 0#8 then none else some ⟨.reserved, a⟩))

/-! ## The decoded record (07 R111) -/

/-- A member byte as a channel; a sealed image carries none above 63. -/
def memberChannel (n : Nat) : Channel := ⟨n % 64, Nat.mod_lt n (by decide)⟩

/-- The record decoded from an image (07 R111, 11 R184). -/
def decodeConfig (m : Memory) : ConfigRecord :=
  { enrolled := imageEnrolled m
    quorum := imageQuorum m
    lease := Memory.u8 m 2
    grace := Memory.u16 m 3
    deadline := Memory.u8 m 5
    strikeThreshold := Memory.u8 m 6
    ballotLifetime := imageLifetime m
    entries := Table.build (fun c =>
      imageEntry m c.val ((typeOfCode? (Memory.read m (entryOffset c.val))).getD .unused))
    groups := Table.build (fun g => (groupMembers m g.val).map memberChannel) }

end Sys2Proof.Machine
end

