-- ==== Sys2Proof/Machine/Members.lean ====
section
/-! DEFINITION. The membership unit (chapter 4) and the ballots' table operations it needs: changes of lane state and
their effects, admission, strikes. -/

namespace Sys2Proof.Machine

namespace Blocks

/-! ## Removal of supporters (06 R105) -/

/-- BALLOT_ENDED of a ballot as it stood when it ended (06 R108). -/
def endedNotice (x : Ballot) (cause : BallotEnd) : NoticeBody := .ballotEnded x.slot x.action cause x.supporters

/-- A lane removed from the supporters of the ballots that `concerned` selects; those left with no supporter are
removed and end ABANDONED, in creation order (06 R105) among those of this lane's removal (log 29). -/
def removeSupporter (b : Blocks) (l : Lane) (concerned : Ballot → Bool) : Blocks :=
  let after := b.ballots.map (fun x => if concerned x then { x with supporters := x.supporters.erase l } else x)
  let emptied := after.filter (fun x => x.supporters == 0)
  ({ b with ballots := after.filter (fun x => x.supporters != 0) }).postAll
    (emptied.map (fun x => endedNotice x .abandoned))

/-- Every open ballot discarded, BALLOT_ENDED for each, oldest first (06 R106). -/
def discardBallots (b : Blocks) : Blocks :=
  ({ b with ballots := [] }).postAll (b.ballots.map (fun x => endedNotice x .discarded))

/-! ## A change of lane state (04 R73, steps 1 to 4) -/

/-- The states whose entry drops a lane's veto set (08 R131). -/
def losesVetoes (new : LaneState) : Bool := new == .absent || new == .excluded

/-- Step 1 of 04 R73: a lane going ABSENT or EXCLUDED loses its veto set, and the drives are recomputed once. Within a
switch (`recompute` false) they are recomputed at step 7 (07 R124). -/
def vetoStep (b : Blocks) (l : Lane) (new : LaneState) (recompute : Bool) : Blocks :=
  if losesVetoes new then (if recompute then (b.dropVetoes l).refreshOutputs else b.dropVetoes l) else b

/-- Step 2 of 04 R73: a lane going ABSENT leaves the reader set, a lane leaving ABSENT joins it. -/
def readerStep (b : Blocks) (l : Lane) (before new : LaneState) : Blocks :=
  if new == .absent then { b with notices := b.notices.leaveReader l }
  else if before == .absent then { b with notices := b.notices.joinReader l }
  else b

/-- Step 4 of 04 R73: a lane leaving VOTING or LINKED leaves every ballot. -/
def supporterStep (b : Blocks) (l : Lane) (before : LaneState) : Blocks :=
  if before == .voting || before == .linked then b.removeSupporter l (fun _ => true) else b

/-- A lane's state changes to that of the record `r` with a cause: steps 1 to 4 of 04 R73. -/
def moveLane (b : Blocks) (l : Lane) (r : LaneRecord) (cause : MemberCause) (recompute : Bool) : Blocks :=
  let before := b.laneState l
  let dropped := (b.setLane l r).vetoStep l r.state recompute
  ((dropped.readerStep l before r.state).post (.memberChange l before r.state cause)).supporterStep l before

/-- The record of a lane going ABSENT: timers stopped, flags clear, strike count kept (04 R59, R69). -/
def absentRecord (r : LaneRecord) : LaneRecord :=
  { r with state := .absent, lease := none, grace := none, returnPending := false, rejoinRequested := false }

/-- The record of a lane going EXCLUDED: timers stopped (04 R68, R70). -/
def excludedRecord (r : LaneRecord) : LaneRecord :=
  { r with state := .excluded, lease := none, grace := none, returnPending := false }

/-! ## Admission (04 R65) -/

/-- A ready lane admitted: VOTING, cause ADMITTED from CANDIDATE and RETURNED from SUSPECT; lease and strikes
kept. -/
def admitLane (b : Blocks) (l : Lane) : Blocks :=
  if b.readyForAdmission l then
    let cause := if b.laneState l == .candidate then MemberCause.admitted else MemberCause.returned
    b.moveLane l { b.lanes.row l with state := .voting, returnPending := false } cause true
  else b

/-- Every ready lane admitted, in ascending lane order. -/
def admitReady (b : Blocks) : Blocks := (List.finRange 4).foldl admitLane b

/-! ## Strikes (04 R67, R68) -/

/-- The strike count of a lane named in the report: up by 1 on dissent, else down by 1 but not below 0. -/
def applyStrike (b : Blocks) (entry : Lane × Bool) : Blocks :=
  let r := b.lanes.row entry.1
  b.setLane entry.1 { r with strikes := if entry.2 then r.strikes + 1 else r.strikes - 1 }

/-- A lane of the report whose count has reached the strike threshold goes EXCLUDED, cause STRIKES (04 R68). Each lane
takes all its steps of R73 in turn: ballots that two exclusions of one close empty end lane by lane, in creation order
within one lane only, where 06 R105 says creation order of one event's ballots (the model's choice, log 29). -/
def excludeAtThreshold (b : Blocks) (l : Lane) : Blocks :=
  if b.config.strikeThreshold ≤ (b.lanes.row l).strikes then
    b.moveLane l (excludedRecord (b.lanes.row l)) .strikes true
  else b

/-- The dissent report taken at a committed close: strike changes, exclusions in ascending lane order with each lane's
effects in turn (04 R73; log 29), admissions (04 R67); the count report is the caller's. -/
def applyReport (b : Blocks) (report : List (Lane × Bool)) : Blocks :=
  let struck := report.foldl applyStrike b
  ((report.map Prod.fst).foldl excludeAtThreshold struck).admitReady

/-! ## The lane records at a switch (04 R72) -/

/-- One lane brought into line with the new record. -/
def switchLane (b : Blocks) (l : Lane) : Blocks :=
  let r := b.lanes.row l
  if r.state == .absent then b
  else if !b.config.enrolled.has l then b.moveLane l (absentRecord r) .notEnrolled false
  else if r.state == .linked then
    b.moveLane l { r with state := .candidate, lease := some b.config.lease } .configured false
  else b

/-- Every lane in ascending order, then every strike count 0 (04 R69, R72). -/
def switchLanes (b : Blocks) : Blocks :=
  let moved := (List.finRange 4).foldl switchLane b
  { moved with lanes := moved.lanes.mapRows (fun r => { r with strikes := 0 }) }

end Blocks

end Sys2Proof.Machine
end

