-- ==== Sys2Proof/Machine/Device.lean ====
section
/-! DEFINITION. The device state controller (chapter 5) and the configuration switch (07 R124): entries to RUNNING,
SAFE_HOLD and LOCKOUT, the close of a round with all it brings about, and the events of the membership unit that
need them. -/

namespace Sys2Proof.Machine

namespace Blocks

/-- STATE_CHANGE posted for a transition (05 R91). -/
def postState (b : Blocks) (before after : DeviceState) (cause : StateCause) : Blocks :=
  b.post (.stateChange before after cause)

/-! ## LOCKOUT (05 R87) -/

/-- The STATE_CHANGE cause of a LOCKOUT cause (05 R78). -/
def lockoutStateCause : LockoutCause → StateCause
  | .storeCheck => .storeCheck
  | .evaluatorMismatch => .evaluatorMismatch

/-- LOCKOUT entry, in the order of 05 R87: record and state; round abandoned; lane records frozen (their timers run
in no step while the device is LOCKOUT); pending record discarded; ballots discarded after STATE_CHANGE; drives
recomputed once; FAILN. -/
def enterLockout (b : Blocks) (cause : LockoutCause) : Blocks :=
  let entered := { b with
    lockoutRecord := some ⟨cause, b.vote.nextRound, b.device⟩, device := DeviceState.lockout }
  let dropped := { entered.abandonRound with pendingRecord := none }
  (((dropped.postState b.device .lockout (lockoutStateCause cause)).discardBallots).refreshOutputs).updateFailn

/-! ## The switch (07 R124) -/

/-- Step 2 of a switch: every agreed value its new fallback value, every hold count 0, every flag clear (01 R6). -/
def switchVote (b : Blocks) : Blocks :=
  { b with vote := { b.vote with channels := Table.build (fun c => ⟨b.fallback c, 0, false, false⟩) } }

/-- Step 3 of a switch (07 R125): the fault state of a channel whose type changed goes NONE; a channel UNUSED in the
new record leaves every veto set. -/
def switchOutputs (b : Blocks) (oldType : Channel → ChannelType) : Blocks :=
  { b with output := {
      vetoes := b.output.vetoes.mapRows
        (fun set => IndexSet.ofPred (fun c => set.has c && b.channelType c != .unused))
      channels := Table.build (fun c =>
        if b.channelType c = oldType c then b.channelOutput c
        else { b.channelOutput c with fault := .none }) } }

/-- Steps 1 to 7 of a switch to the record of an image (07 R124). -/
def switchTo (b : Blocks) (p : PendingRecord) : Blocks :=
  let old := b.active.map ActiveConfig.digest
  let installed := { b with active := some ⟨decodeConfig p.image, p.digest⟩, pendingRecord := none }
  let voted := installed.switchVote
  let staged := voted.switchOutputs b.channelType
  let noticed := (staged.post (.configSwitched old p.digest)).discardBallots
  ((noticed.switchLanes).refreshOutputs).updateFailn

/-- A pending switch, if there is one, carried out: steps 1 to 7 of 07 R124. -/
def carryOutPending (b : Blocks) : Blocks :=
  match b.pendingRecord with
  | some p => b.switchTo p
  | none => b

/-! ## RUNNING (05 R81, R83) -/

/-- The lease of every VOTING lane restarted with the full length (04 R60, 05 R81). -/
def restartVotingLeases (b : Blocks) : Blocks :=
  { b with lanes := b.lanes.mapRows (fun r =>
      if r.state = .voting then { r with lease := some b.config.lease } else r) }

/-- RUNNING entered from GATHERING (05 R81). -/
def enterRunning (b : Blocks) : Blocks :=
  ((({ b with device := DeviceState.running }).restartVotingLeases.openNextRound).refreshOutputs).postState
    .gathering .running .quorumReached

/-- RUNNING entered from SAFE_HOLD by a passed RESUME ballot (05 R83); leases are not restarted. -/
def resume (b : Blocks) : Blocks :=
  ((({ b with device := DeviceState.running }).openNextRound).refreshOutputs).postState
    .safeHold .running .resumed

/-! ## SAFE_HOLD (05 R82) -/

/-- Steps 1 to 4 of SAFE_HOLD entry, STATE_CHANGE standing before the admissions of step 4. -/
def safeHoldSteps (b : Blocks) : Blocks :=
  (((({ b with device := DeviceState.safeHold }).discardRound.writeFallbackImage).refreshOutputs).postState
    .running .safeHold .quorumLost).admitReady

/-- SAFE_HOLD entry (05 R82): steps 1 to 4, then the pending switch of step 5; the device stays SAFE_HOLD. -/
def enterSafeHold (b : Blocks) : Blocks := b.safeHoldSteps.carryOutPending

/-! ## The VOTING count (05 R79) -/

/-- The VOTING count is at least Q. -/
def hasQuorum (b : Blocks) : Bool := decide (b.config.quorum ≤ b.votingCount)

/-- The VOTING count reported to the device state controller (05 R79). -/
def reportCount (b : Blocks) : Blocks :=
  match b.device with
  | .gathering => if b.hasQuorum then b.enterRunning else b
  | .running => if b.hasQuorum then b else b.enterSafeHold
  | .unconfigured => b
  | .safeHold => b
  | .lockout => b

/-- A pending switch at a round close in RUNNING (07 R127): carried out, then the count is compared with the new Q
(05 R84). -/
def switchAtClose (b : Blocks) : Blocks :=
  match b.device, b.pendingRecord with
  | .running, some p => if (b.switchTo p).hasQuorum then b.switchTo p else (b.switchTo p).safeHoldSteps
  | _, _ => b

/-- The first switch (05 R80): the switch, GATHERING, every CANDIDATE lane admitted, the count compared. -/
def firstSwitch (b : Blocks) : Blocks :=
  let switched := { b.carryOutPending with device := DeviceState.gathering }
  ((switched.postState .unconfigured .gathering .firstSwitch).admitReady).reportCount

/-! ## The close of a round (02 R27) -/

/-- What follows a commit: strikes, exclusions and admissions, the count reported once (04 R67), then a pending
switch (07 R123). -/
def afterCommit (b : Blocks) (report : List (Lane × Bool)) : Blocks :=
  ((b.applyReport report).reportCount).switchAtClose

/-- The close of the round (02 R27): both evaluators compute it; if they agree it is committed and its consequences
follow; if they differ nothing of it is committed and LOCKOUT is entered (R38). -/
def closeRound (b : Blocks) (evalB : Option Evaluation) : Blocks :=
  if b.evaluatorsAgree evalB then (b.commitRound b.evaluate).afterCommit b.evaluate.report
  else b.enterLockout .evaluatorMismatch

/-- The re-test of completeness when a lane has left VOTING (02 R26): with at least Q lanes left VOTING, a
collecting round that every one of them has proposed in closes at once. In OPEN_IDLE completeness cannot hold (R23). -/
def retest (b : Blocks) (evalB : Option Evaluation) : Blocks :=
  if b.vote.openRound = .collecting ∧ b.hasQuorum = true ∧ b.complete = true then b.closeRound evalB else b

/-- The completeness test when a proposal has been accepted (02 R23). -/
def closeIfComplete (b : Blocks) (evalB : Option Evaluation) : Blocks :=
  if b.vote.openRound = .collecting ∧ b.complete = true then b.closeRound evalB else b

/-! ## Lane events outside a close (04) -/

/-- A lane's change of state, to another state than VOTING, as an event of its own: steps 1 to 4, and when it leaves
VOTING the re-test of step 5 and the report of step 6 (04 R73); "Events that change no lane's VOTING membership report
nothing" (R74). -/
def laneEvent (b : Blocks) (l : Lane) (r : LaneRecord) (cause : MemberCause) (evalB : Option Evaluation) : Blocks :=
  let moved := b.moveLane l r cause true
  if b.laneState l = .voting then (moved.retest evalB).reportCount else moved

/-- A lane that has become ready is admitted in the same event in GATHERING and SAFE_HOLD, and the count reported
(04 R65, R74). -/
def admitOutsideRunning (b : Blocks) (l : Lane) : Blocks :=
  match b.device with
  | .gathering => (b.admitLane l).reportCount
  | .safeHold => (b.admitLane l).reportCount
  | .unconfigured => b
  | .running => b
  | .lockout => b

/-- JOIN from a lane (04 R56, R57), its renewal apart: the outcome and the effect. -/
def join (b : Blocks) (l : Lane) (digest : Digest) : Blocks × Outcome :=
  match b.device, b.laneState l with
  | .lockout, _ => (b, .lockout)
  | .unconfigured, .absent =>
    (b.moveLane l { b.lanes.row l with state := .linked } .joined true, .accepted)
  | _, .absent =>
    if !b.config.enrolled.has l then (b, .notEnrolled)
    else if b.active.map ActiveConfig.digest ≠ some digest then (b, .digestMismatch)
    else
      ((b.moveLane l { b.lanes.row l with state := .candidate, lease := some b.config.lease } .joined
          true).admitOutsideRunning l, .accepted)
  | _, .linked => (b, .accepted)
  | _, .candidate => (b, .accepted)
  | _, .voting => (b, .accepted)
  | _, .suspect => (b, .rejoining)
  | _, .excluded => (b.setLane l { b.lanes.row l with rejoinRequested := true }, .excluded)

/-- The outcome of KEEPALIVE (04 R58); its effect is its renewal. -/
def keepaliveOutcome (b : Blocks) (l : Lane) : Outcome :=
  match b.device, b.laneState l with
  | .lockout, _ => .lockout
  | _, .absent => .notVoting
  | _, .linked => .accepted
  | _, .candidate => .accepted
  | _, .voting => .accepted
  | _, .suspect => .rejoining
  | _, .excluded => .excluded

/-- LEAVE from a lane (04 R59). -/
def leave (b : Blocks) (l : Lane) (evalB : Option Evaluation) : Blocks × Outcome :=
  match b.device, b.laneState l with
  | .lockout, _ => (b, .lockout)
  | _, .absent => (b, .accepted)
  | _, .excluded => (b, .excluded)
  | _, .linked => (b.laneEvent l (absentRecord (b.lanes.row l)) .left evalB, .accepted)
  | _, .candidate => (b.laneEvent l (absentRecord (b.lanes.row l)) .left evalB, .accepted)
  | _, .voting => (b.laneEvent l (absentRecord (b.lanes.row l)) .left evalB, .accepted)
  | _, .suspect => (b.laneEvent l (absentRecord (b.lanes.row l)) .left evalB, .accepted)

/-- The return of a SUSPECT lane taken (04 R63): return pending set, grace stopped, return lease started; admitted
at once in GATHERING and SAFE_HOLD. -/
def takeReturn (b : Blocks) (l : Lane) : Blocks :=
  (b.setLane l { b.lanes.row l with
    returnPending := true, grace := none, lease := some b.config.lease }).admitOutsideRunning l

/-- The renewal that a JOIN, KEEPALIVE or PROPOSE carries, by the lane's state when it is taken (04 R61). -/
def renew (b : Blocks) (l : Lane) : Blocks :=
  match b.device, b.laneState l with
  | .lockout, _ => b
  | _, .absent => b
  | _, .linked => b
  | _, .excluded => b
  | _, .candidate => b.startLease l
  | _, .voting => b.startLease l
  | _, .suspect => if (b.lanes.row l).returnPending then b.startLease l else b.takeReturn l

/-- A READMIT ballot for a lane has passed (04 R71): CANDIDATE with strike count 0, the flag clear, the lease
started; outside RUNNING admitted at once. -/
def readmit (b : Blocks) (l : Lane) : Blocks :=
  (b.moveLane l { b.lanes.row l with
    state := .candidate, strikes := 0, rejoinRequested := false, lease := some b.config.lease } .readmitted
    true).admitOutsideRunning l

/-- A lease timer that runs expires (04 R62, R63). -/
def leaseExpires (b : Blocks) (l : Lane) (evalB : Option Evaluation) : Blocks :=
  let r := b.lanes.row l
  match r.state with
  | .candidate => b.laneEvent l (absentRecord r) .leaseExpired evalB
  | .voting =>
    b.laneEvent l { r with state := .suspect, lease := none, grace := some b.config.grace, returnPending := false }
      .leaseExpired evalB
  | .suspect =>
    if r.returnPending then
      b.setLane l { r with returnPending := false, lease := none, grace := some b.config.grace }
    else b
  | .absent => b
  | .linked => b
  | .excluded => b

/-- A grace timer that runs expires: the SUSPECT lane goes EXCLUDED (04 R64). -/
def graceExpires (b : Blocks) (l : Lane) : Blocks :=
  let r := b.lanes.row l
  if r.state = .suspect ∧ r.returnPending = false then
    b.laneEvent l (excludedRecord r) .graceExpired none
  else b

/-! ## PROPOSE (02 R19) -/

/-- The answer to a PROPOSE: outcome, and the number its payload carries. -/
inductive ProposeAnswer
  | plain (outcome : Outcome)
  | withRound (outcome : Outcome) (round : BitVec 16)
  | badEntry (index : Nat)
  deriving DecidableEq, Repr

/-- The vote engine takes a PROPOSE (02 R19 to R23). -/
def propose (b : Blocks) (l : Lane) (round : BitVec 16) (entries : List (Nat × Nat)) (evalB : Option Evaluation) :
    Blocks × ProposeAnswer :=
  if b.device = .lockout then (b, .plain .lockout)
  else if b.laneState l = .suspect then (b, .plain .rejoining)
  else if b.laneState l ≠ .voting then (b, .plain .notVoting)
  else if b.device ≠ .running then (b, .plain .notRunning)
  else if round = b.vote.nextRound - 1 then (b, .withRound .late b.vote.nextRound)
  else if round ≠ b.vote.nextRound then (b, .withRound .round b.vote.nextRound)
  else if b.vote.proposers.has l then (b, .plain .alreadyProposed)
  else
    match checkEntries b.badProposal 0 [] entries with
    | .inl i => (b, .badEntry i)
    | .inr good => ((b.storeProposal l good).closeIfComplete evalB, .withRound .accepted b.vote.nextRound)

end Blocks

end Sys2Proof.Machine
end

