-- ==== Sys2Proof/Machine/Ballots.lean ====
section
/-! DEFINITION. The ballot unit (chapter 6): applicability, SUPPORT, the pass and the carrying out of the four actions,
lifetimes, and the records of READ_BALLOTS. The staging areas are read, never written. -/

namespace Sys2Proof.Machine

/-- The result an accepted SUPPORT reports (06 R96, R98). -/
inductive SupportResult
  | created
  | added
  | unchanged
  | passed
  deriving DecidableEq, Repr

def SupportResult.code : SupportResult → Byte
  | .created => 0x01#8
  | .added => 0x02#8
  | .unchanged => 0x03#8
  | .passed => 0x04#8

/-- The answer to a SUPPORT: a refusal, or slot, result, supporters after the request and quorum needed (06 R98). -/
inductive SupportAnswer
  | refused (outcome : Outcome)
  | accepted (slot : BallotSlot) (result : SupportResult) (supporters quorum : Nat)
  deriving DecidableEq, Repr

/-- The staging areas of the four lanes. -/
abbrev Staging := Table 4 StagingArea

/-- "the supporting lane's own staging image is SEALED, and its digest equals d" (06 R97). -/
def StagingArea.carries (a : StagingArea) (d : Digest) : Bool :=
  a.state == .sealed && a.digest == some d

namespace Blocks

/-- The lowest-numbered supporter of a set (06 R101, R104). -/
def lowestSupporter (supporters : LaneSet) : Option Lane := supporters.members.head?

/-- The quorum a ballot needs: the Q of the active configuration (06 R100); while there is none, the Q written in the
staging image of its lowest-numbered supporter (R101). -/
def quorumNeeded (b : Blocks) (staging : Staging) (supporters : LaneSet) : Nat :=
  match b.active, lowestSupporter supporters with
  | some a, _ => a.record.quorum
  | none, some l => imageQuorum (staging.row l).image
  | none, none => 0

/-- The lifetime of a ballot that a lane creates (06 R99). -/
def lifetimeFor (b : Blocks) (staging : Staging) (l : Lane) : Nat :=
  match b.active with
  | some a => a.record.ballotLifetime
  | none => imageLifetime (staging.row l).image

/-- The refusal of an action that is not applicable; `none` when it is applicable (06 R97). -/
def inapplicable (b : Blocks) (staging : Staging) (l : Lane) : BallotAction → Option Outcome
  | .clearFault c => if b.fault c = .none then some .notApplicable else none
  | .readmit r => if b.laneState r = .excluded then none else some .notApplicable
  | .resume => if b.device = .safeHold then none else some .notApplicable
  | .commitConfig d =>
    if b.pendingRecord.isSome then some .switchPending
    else if !(staging.row l).carries d then some .stagingMismatch
    else if b.device = .unconfigured ∧ (imageEnrolled (staging.row l).image).has l = false then some .notEnrolled
    else none

/-- Check 2 of 06 R96: a LINKED lane while UNCONFIGURED, a VOTING lane otherwise. -/
def maySupport (b : Blocks) (l : Lane) : Bool :=
  if b.device = .unconfigured then b.laneState l == .linked else b.laneState l == .voting

/-- The open ballot with an action and argument; the table holds at most one (06 R94). -/
def ballotFor (b : Blocks) (action : BallotAction) : Option Ballot := b.ballots.find? (fun x => x.action == action)

/-- The lowest-numbered free slot (06 R98). -/
def freeSlot (b : Blocks) : Option BallotSlot :=
  (List.finRange 8).find? (fun i => !b.ballots.any (fun x => x.slot == i))

/-- A ballot leaves the table (06 R102 step 2). -/
def removeBallot (b : Blocks) (slot : BallotSlot) : Blocks :=
  { b with ballots := b.ballots.filter (fun x => x.slot != slot) }

/-- A ballot's supporter set written. -/
def setSupporters (b : Blocks) (slot : BallotSlot) (supporters : LaneSet) : Blocks :=
  { b with ballots := b.ballots.map (fun x => if x.slot = slot then { x with supporters := supporters } else x) }

/-- A COMMIT_CONFIG(d) ballot has passed: the pending record is set, and the switch is made at once in UNCONFIGURED and
SAFE_HOLD (06 R104); in RUNNING it stays pending. No run passes one in GATHERING (05 R84, log 19). -/
def commitConfig (b : Blocks) (image : Memory) (d : Digest) : Blocks :=
  let pending := { b with pendingRecord := some ⟨image, d⟩ }
  match b.device with
  | .unconfigured => pending.firstSwitch
  | .safeHold => pending.carryOutPending
  | .running => pending
  | .gathering => pending
  | .lockout => pending

/-- A passed action carried out by its owner (06 R103). -/
def carryOut (b : Blocks) (staging : Staging) (supporters : LaneSet) : BallotAction → Blocks
  | .clearFault c => b.clearFault c
  | .readmit l => b.readmit l
  | .resume => b.resume
  | .commitConfig d =>
    match lowestSupporter supporters with
    | some l => b.commitConfig (staging.row l).image d
    | none => b

/-- The pass of a ballot, its supporter set being `supporters` (06 R102 steps 2 to 4). -/
def pass (b : Blocks) (staging : Staging) (x : Ballot) (supporters : LaneSet) : Blocks :=
  ((b.removeBallot x.slot).post (.ballotPassed x.slot x.action supporters)).carryOut staging supporters x.action

/-- A lane added to an open ballot, and the pass test (06 R98, R100, R101). -/
def addSupport (b : Blocks) (staging : Staging) (l : Lane) (x : Ballot) : Blocks × SupportAnswer :=
  let supporters := x.supporters.insert l
  let needed := b.quorumNeeded staging supporters
  if needed ≤ supporters.size then
    (b.pass staging x supporters, .accepted x.slot .passed supporters.size needed)
  else (b.setSupporters x.slot supporters, .accepted x.slot .added supporters.size needed)

/-- The ballot a lane creates (06 R98, R99). -/
def createBallot (b : Blocks) (staging : Staging) (l : Lane) (action : BallotAction) (slot : BallotSlot) : Blocks :=
  let x : Ballot := ⟨slot, action, IndexSet.insert 0 l, b.lifetimeFor staging l⟩
  { b with ballots := b.ballots ++ [x] }

/-- Checks 4 to 7 of 06 R96: the table. -/
def supportTable (b : Blocks) (staging : Staging) (l : Lane) (action : BallotAction) : Blocks × SupportAnswer :=
  match b.ballotFor action, b.freeSlot with
  | some x, _ =>
    if x.supporters.has l then
      (b, .accepted x.slot .unchanged x.supporters.size (b.quorumNeeded staging x.supporters))
    else b.addSupport staging l x
  | none, some slot =>
    (b.createBallot staging l action slot,
      .accepted slot .created 1 (b.quorumNeeded staging (IndexSet.insert 0 l)))
  | none, none => (b, .refused .ballotFull)

/-- The ballot unit takes a SUPPORT (06 R96). -/
def support (b : Blocks) (staging : Staging) (l : Lane) (action : BallotAction) : Blocks × SupportAnswer :=
  if b.device = .lockout then (b, .refused .lockout)
  else if !b.maySupport l then (b, .refused .notVoting)
  else
    match b.inapplicable staging l action with
    | some refusal => (b, .refused refusal)
    | none => b.supportTable staging l action

/-- A lifetime timer that runs expires: the ballot ends EXPIRED (06 R99, R108). -/
def ballotExpires (b : Blocks) (x : Ballot) : Blocks := (b.removeBallot x.slot).post (endedNotice x .expired)

/-- A sealed image with a digest is reopened: its lane leaves the COMMIT_CONFIG ballot of that digest (06 R105,
07 R117). -/
def imageReopened (b : Blocks) (l : Lane) (d : Digest) : Blocks :=
  b.removeSupporter l (fun x => x.action == .commitConfig d)

/-- The READ_BALLOTS record of a ballot, 11 bytes (11 R182). -/
def ballotRecord (b : Blocks) (staging : Staging) (x : Ballot) : List Byte :=
  [byte x.slot.val, x.action.code] ++ x.action.argument
    ++ [laneSetByte x.supporters, byte x.supporters.size, byte (b.quorumNeeded staging x.supporters)]
    ++ bytes16 x.lifetime

/-- The READ_BALLOTS payload: ballot count and records in creation order (06 R95, 11 R182). -/
def ballotsPayload (b : Blocks) (staging : Staging) : List Byte :=
  byte b.ballots.length :: b.ballots.flatMap (b.ballotRecord staging)

end Blocks

end Sys2Proof.Machine
end

