-- ==== Sys2Proof/Machine/Staging.lean ====
section
/-! DEFINITION. The staging areas (07 sections 7.2 and 7.3): writing, sealing, opening, reading. -/

namespace Sys2Proof.Machine

/-- The time within which a seal completes, in ms (07 R115). -/
def sealLimit : Nat := 3

/-- "An offset plus length that exceeds 448" (07 R113, R118). -/
def beyondImage (offset length : Nat) : Bool := decide (imageLength < offset + length)

namespace StagingArea

/-- The data bytes replace the bytes of the image from the offset onward (07 R113). -/
def written (a : StagingArea) (offset : Nat) (data : List Byte) : StagingArea :=
  { a with image := Memory.writeBytes a.image offset data }

/-- A seal begins (07 R114). -/
def beginSeal (a : StagingArea) : StagingArea := { a with state := .sealing, sealTimer := some sealLimit }

/-- A sealed image reopened: the bytes are kept (07 R117). -/
def reopened (a : StagingArea) : StagingArea := { a with state := .opened, digest := none }

/-- The area after the completion of its seal (07 R115). -/
def completed (a : StagingArea) : StagingArea :=
  match validate a.image with
  | none => { a with state := .sealed, digest := some (imageDigest a.image), sealTimer := none }
  | some _ => { a with state := .opened, digest := none, sealTimer := none }

/-- The outcome of the seal's response (07 R115). -/
def sealOutcome (a : StagingArea) : Outcome :=
  match validate a.image with
  | none => .accepted
  | some _ => .invalidConfig

/-- The payload of the seal's response: the digest, or the reason and index of the first failure (11 R182). -/
def sealPayload (a : StagingArea) : List Byte :=
  match validate a.image with
  | none => bytes32 (imageDigest a.image)
  | some f => f.reason.code :: bytes16 f.index

/-- The digest field of READ_STAGING, "reading 00000000h unless the state is SEALED" (11 R182). -/
def digestField (a : StagingArea) : List Byte :=
  match a.state with
  | .sealed => bytes32 (a.digest.getD 0)
  | .opened => bytes32 0
  | .sealing => bytes32 0

/-- The READ_STAGING payload for the area of a lane (07 R118, 11 R182). -/
def payload (a : StagingArea) (l : Lane) (range : Option (Nat × Nat)) : List Byte :=
  [byte l.val, a.state.code] ++ a.digestField
    ++ (match range with
        | none => []
        | some (offset, length) => Memory.bytes a.image offset length)

end StagingArea

end Sys2Proof.Machine
end

