-- ==== Sys2Proof/Machine/Ports.lean ====
section
/-! DEFINITION. The lane link ports (chapter 10): the checks on a request, the take of a request, the response queue,
LINK_RESET, and the two ends of a transaction. -/

namespace Sys2Proof.Machine

/-! ## The answer of an owner -/

/-- What an owner answers: a processing outcome with its payload and the GAP flag, or the reservation of a seal that
begins (10 R168, R171). -/
inductive Answer
  | reply (outcome : Outcome) (payload : List Byte) (gap : Bool)
  | reserve
  deriving DecidableEq, Repr

/-- What a request leaves: the blocks, the staging areas, the answer. A request's owner can touch nothing else. -/
structure Served where
  blocks : Blocks
  staging : Staging
  answer : Answer
  deriving DecidableEq, Repr

/-- The form check and the owner of a request kind (10 R171 steps 3 and 4). -/
abbrev Handler := Blocks → Staging → Served

/-- A request that changes nothing. -/
def unchanged (b : Blocks) (staging : Staging) (outcome : Outcome) (payload : List Byte) : Served :=
  ⟨b, staging, .reply outcome payload false⟩

/-- "A BAD_REQUEST response echoes the kind code as it arrived and carries no payload" (10 R172). -/
def badRequest (b : Blocks) (staging : Staging) : Served := unchanged b staging .badRequest []

/-! ## Ports of the state -/

namespace State

/-- A port replaced. -/
def setPort (s : State) (l : Lane) (p : Port) : State := { s with ports := s.ports.put l p }

/-- The port outcome recorded with a sequence byte (10 R165). -/
def setOutcome (s : State) (l : Lane) (o : PortOutcome) (seq : Option Byte) : State :=
  s.setPort l { s.ports.row l with outcome := o, outcomeSeq := seq }

/-- A staging area replaced. -/
def setStaging (s : State) (l : Lane) (a : StagingArea) : State := { s with staging := s.staging.put l a }

/-- The blocks replaced. -/
def setBlocks (s : State) (b : Blocks) : State := { s with toBlocks := b }

end State

/-- The depth of a response queue (10 R168). -/
def responseDepth : Nat := 4

/-- Checks 3 to 5 of 10 R165 on a request that is no LINK_RESET: sequence number (R166), queue (R167). -/
def Port.check (p : Port) (seq : Byte) : PortOutcome :=
  if seq = p.expected then (if p.queue.length < responseDepth then .taken else .queueFull)
  else if seq + 1 = p.expected then .duplicate
  else .sequence

/-- A request taken: the expected number advances modulo 256, the port outcome is TAKEN (10 R165, R166). -/
def Port.taken (p : Port) (seq : Byte) : Port :=
  { p with expected := p.expected + 1, outcome := .taken, outcomeSeq := some seq }

namespace State

/-- The response to a lane with its fixed fields as they stand now (10 R168). -/
def responseNow (s : State) (l : Lane) (kind seq : Byte) (outcome : Outcome) (payload : List Byte) (gap : Bool) :
    Response :=
  ⟨kind, seq, outcome, payload, s.failn, decide (0 < s.notices.unread l), gap⟩

/-- The slot a taken request appends, filled with the owner's answer (10 R168, R171 steps 2 and 5). -/
def slotFor (s : State) (l : Lane) (kind seq : Byte) : Answer → ResponseSlot
  | .reply outcome payload gap => .response (s.responseNow l kind seq outcome payload gap)
  | .reserve => .reservation kind seq

/-- The take event of a request (10 R171), ATTN last. -/
def takeRequest (s : State) (l : Lane) (kind seq : Byte) (handle : Handler) : State :=
  let served := handle s.toBlocks s.staging
  let after := { s.setBlocks served.blocks with staging := served.staging }
  let port := (s.ports.row l).taken seq
  (after.setPort l { port with queue := port.queue ++ [after.slotFor l kind seq served.answer] }).updateAttn

/-- A request frame of good length and CRC at a lane's port (10 R165): discarded in reset (R177), LENGTH_ERROR when its
length field would be above 256 (log 13), then checks 3 and 4, and the take. -/
def receive (s : State) (l : Lane) (kind seq : Byte) (payload : List Byte) (handle : Handler) : State :=
  if s.inReset then s
  else if 256 < payload.length then s.setOutcome l .lengthError (some seq)
  else if (s.ports.row l).check seq = .taken then s.takeRequest l kind seq handle
  else s.setOutcome l ((s.ports.row l).check seq) (some seq)

end State

/-! ## LINK_RESET (10 R173) -/

/-- A response that has left the queue can no longer be delivered by the open transaction (log 12). -/
def Transaction.withdrawn : Transaction → Transaction
  | .none => .none
  | .shifting frame _ => .shifting frame false
  | .dead => .dead

namespace State

/-- The take of a LINK_RESET: the queue flushed, the expected number 0, its own response ACCEPTED with an empty payload,
port outcome TAKEN, ATTN. -/
def takeLinkReset (s : State) (l : Lane) (kind seq : Byte) : State :=
  let p := s.ports.row l
  (s.setPort l { p with
    expected := 0
    queue := [.response (s.responseNow l kind seq .accepted [] false)]
    outcome := .taken
    outcomeSeq := some seq
    transaction := p.transaction.withdrawn }).updateAttn

/-- A LINK_RESET frame at a lane's port: it passes checks 3 and 4 whatever its sequence number and the occupancy. -/
def receiveLinkReset (s : State) (l : Lane) (kind seq : Byte) (payload : List Byte) : State :=
  if s.inReset then s
  else if 256 < payload.length then s.setOutcome l .lengthError (some seq)
  else s.takeLinkReset l kind seq

/-! ## Transactions (10 R161 to R163) -/

/-- The frame chosen at the assertion of chip-select, with whether it is a queued response (10 R162). -/
def chosenFrame (s : State) (l : Lane) : Transaction :=
  let p := s.ports.row l
  match p.queue with
  | .response r :: rest => .shifting (responseFrame r p.outcome p.outcomeSeq (!rest.isEmpty)) true
  | .reservation _ _ :: _ =>
    .shifting (noneFrame p.outcome p.outcomeSeq true (decide (0 < s.notices.unread l)) s.failn) false
  | [] => .shifting (noneFrame p.outcome p.outcomeSeq false (decide (0 < s.notices.unread l)) s.failn) false

/-- The assertion of chip-select: in reset the transaction is dead for its whole length (10 R177). While chip-select is
already asserted nothing happens (log 11). -/
def beginTransaction (s : State) (l : Lane) : State :=
  match (s.ports.row l).transaction with
  | .none => s.setPort l { s.ports.row l with transaction := if s.inReset then .dead else s.chosenFrame l }
  | .shifting _ _ => s
  | .dead => s

/-- "A response is delivered whole when every byte of it, through its CRC, was clocked out before the release" (10 R163):
as many whole bytes left as came in (log 10). -/
def deliveredWhole (frame : List Byte) (isResponse : Bool) (shiftedIn : List Byte) : Bool :=
  isResponse && decide (frame.length ≤ shiftedIn.length)

/-- The delivery settled at the release, and the transaction ended (10 R163). -/
def settleDelivery (s : State) (l : Lane) (delivered : Bool) : State :=
  let p := s.ports.row l
  (s.setPort l { p with
    queue := if delivered then p.queue.drop 1 else p.queue, transaction := .none }).updateAttn

end State

/-- "A transaction in which the lane shifted in no byte, or only bytes of 00h, carries no request" (10 R164). -/
def noRequest (shiftedIn : List Byte) : Bool := shiftedIn.all (fun b => b == 0#8)

end Sys2Proof.Machine
end

