-- ==== Sys2Proof/Machine/Reads.lean ====
section
/-! DEFINITION. The payloads of READ_STATUS and READ_CHANNELS (10 R174, R175, 11 R182). -/

namespace Sys2Proof.Machine

namespace Blocks

/-- The Q of the active configuration, if there is one. -/
def quorumByte (b : Blocks) : Byte :=
  match b.active with
  | some a => byte a.record.quorum
  | none => 0#8

/-- The presence byte of READ_STATUS: active digest, pending digest, Q, LOCKOUT record, notice queue not empty. -/
def statusPresence (b : Blocks) : Byte :=
  flagBit b.active.isSome 0 ||| flagBit b.pendingRecord.isSome 1 ||| flagBit b.active.isSome 2
    ||| flagBit b.lockoutRecord.isSome 3 ||| flagBit (!b.notices.queue.isEmpty) 4

/-- A lane's veto count (08 R128). -/
def vetoCount (b : Blocks) (l : Lane) : Nat := IndexSet.size (b.output.vetoes.row l)

/-- The lane record of READ_STATUS, 4 bytes. -/
def laneBytes (b : Blocks) (l : Lane) : List Byte :=
  let r := b.lanes.row l
  [r.state.code, byte r.strikes, flagBit r.returnPending 0 ||| flagBit r.rejoinRequested 1, byte (b.vetoCount l)]

/-- The LOCKOUT record of READ_STATUS: cause, round number, prior state; bytes of 00h when it reads none. -/
def lockoutBytes (b : Blocks) : List Byte :=
  match b.lockoutRecord with
  | some r => [r.cause.code] ++ bytes16 r.round.toNat ++ [r.prior.code]
  | none => [0#8, 0#8, 0#8, 0#8]

/-- The sequence number of a queue entry, or bytes of 00h when there is none (09 R159). -/
def entryNumber : Option Notice → List Byte
  | some n => bytes16 n.seq.toNat
  | none => [0#8, 0#8]

/-- The READ_STATUS payload, 41 bytes. -/
def statusPayload (b : Blocks) : List Byte :=
  [b.device.code] ++ bytes16 b.vote.nextRound.toNat
    ++ [b.vote.openRound.code, laneSetByte b.vote.proposers, b.statusPresence]
    ++ bytes32 ((b.active.map ActiveConfig.digest).getD 0)
    ++ bytes32 ((b.pendingRecord.map PendingRecord.digest).getD 0)
    ++ [b.quorumByte]
    ++ (List.finRange 4).flatMap b.laneBytes
    ++ [flagBit b.failn 0] ++ b.lockoutBytes
    ++ [byte b.notices.queue.length] ++ entryNumber b.notices.queue.head? ++ entryNumber b.notices.queue.getLast?

/-- The status byte of a channel: type, fault state, readback level, settling, STALE, WITHHELD. -/
def channelStatus (b : Blocks) (c : Channel) : Byte :=
  let o := b.channelOutput c
  let r := b.vote.channels.row c
  (b.channelType c).code ||| (o.fault.code <<< 2) ||| (levelCode o.readback <<< 4) ||| flagBit o.settling 5
    ||| flagBit r.stale 6 ||| flagBit r.withheld 7

/-- The READ_CHANNELS record of a channel, 7 bytes. -/
def channelBytes (b : Blocks) (c : Channel) : List Byte :=
  [b.channelStatus c] ++ bytes16 (b.agreed c) ++ bytes16 (b.channelOutput c).drive.value
    ++ [byte (b.vote.channels.row c).hold, laneSetByte (b.vetoingLanes c)]

/-- The channels from `first` onward, `count` of them. -/
def channelsFrom (first count : Nat) : List Channel :=
  (List.finRange 64).filter (fun c => decide (first ≤ c.val ∧ c.val < first + count))

/-- The READ_CHANNELS payload: first channel, count, one record for each channel. -/
def channelsPayload (b : Blocks) (first count : Nat) : List Byte :=
  [byte first, byte count] ++ (channelsFrom first count).flatMap b.channelBytes

end Blocks

end Sys2Proof.Machine
end

