-- ==== Sys2Proof/Machine/Requests.lean ====
section
/-! DEFINITION. The fifteen requests and the unknown kind: the form check and the owner of each (its handler), and the
meaning of each request command. -/

namespace Sys2Proof.Machine

/-! ## Handlers -/

/-- JOIN (04 R56, R57), with the renewal it carries taken after the owner (10 R171). -/
def handleJoin (l : Lane) (payload : List Byte) : Handler := fun b staging =>
  match parseJoin payload with
  | none => badRequest (b.renew l) staging
  | some digest =>
    let joined := b.join l digest
    let renewed := joined.1.renew l
    unchanged renewed staging joined.2 [(renewed.laneState l).code]

/-- LEAVE (04 R59). -/
def handleLeave (l : Lane) (payload : List Byte) (evalB : Option Evaluation) : Handler := fun b staging =>
  match parseEmpty payload with
  | none => badRequest b staging
  | some _ => unchanged (b.leave l evalB).1 staging (b.leave l evalB).2 []

/-- KEEPALIVE (04 R58), with its renewal (10 R171). -/
def handleKeepalive (l : Lane) (payload : List Byte) : Handler := fun b staging =>
  match parseEmpty payload with
  | none => badRequest (b.renew l) staging
  | some _ =>
    let renewed := b.renew l
    unchanged renewed staging (b.keepaliveOutcome l) [(renewed.laneState l).code]

/-- The outcome of an answer to PROPOSE. -/
def Blocks.ProposeAnswer.outcome : Blocks.ProposeAnswer → Outcome
  | .plain o => o
  | .withRound o _ => o
  | .badEntry _ => .badEntry

/-- The payload of an answer to PROPOSE (11 R182). -/
def Blocks.ProposeAnswer.payload : Blocks.ProposeAnswer → List Byte
  | .plain _ => []
  | .withRound _ round => bytes16 round.toNat
  | .badEntry i => [byte i]

/-- PROPOSE (02 R19), with its renewal (10 R171). -/
def handlePropose (l : Lane) (payload : List Byte) (evalB : Option Evaluation) : Handler := fun b staging =>
  match parsePropose payload with
  | none => badRequest (b.renew l) staging
  | some (round, entries) =>
    let proposed := b.propose l round entries evalB
    unchanged (proposed.1.renew l) staging proposed.2.outcome proposed.2.payload

/-- VETO (08 R129, R130). -/
def handleVeto (l : Lane) (payload : List Byte) : Handler := fun b staging =>
  match parseVeto payload with
  | none => badRequest b staging
  | some entries =>
    if b.device = .lockout then unchanged b staging .lockout []
    else if b.device = .unconfigured then unchanged b staging .notConfigured []
    else if b.laneState l = .absent ∨ b.laneState l = .excluded then unchanged b staging .notVoting []
    else
      match Blocks.checkEntries b.badVeto 0 [] entries with
      | .inl i => unchanged b staging .badEntry [byte i]
      | .inr good =>
        let vetoed := b.acceptVeto l good
        unchanged vetoed staging .accepted [byte (vetoed.vetoCount l)]

/-- The answer to a SUPPORT as a response (06 R98, 11 R182). -/
def SupportAnswer.served (b : Blocks) (staging : Staging) : SupportAnswer → Served
  | .refused o => unchanged b staging o []
  | .accepted slot result supporters quorum =>
    unchanged b staging .accepted [byte slot.val, result.code, byte supporters, byte quorum]

/-- SUPPORT (06 R96). -/
def handleSupport (l : Lane) (payload : List Byte) : Handler := fun b staging =>
  match parseSupport payload with
  | none => badRequest b staging
  | some action => (b.support staging l action).2.served (b.support staging l action).1 staging

/-- STAGE_WRITE (07 R113). -/
def handleStageWrite (l : Lane) (payload : List Byte) : Handler := fun b staging =>
  match parseStageWrite payload with
  | none => badRequest b staging
  | some (offset, data) =>
    if b.device = .lockout then unchanged b staging .lockout []
    else
      match (staging.row l).state with
      | .sealing => unchanged b staging .sealing []
      | .sealed => unchanged b staging .sealed []
      | .opened =>
        if beyondImage offset data.length then unchanged b staging .badEntry [0#8]
        else unchanged b (staging.put l ((staging.row l).written offset data)) .accepted []

/-- STAGE_SEAL (07 R114). -/
def handleStageSeal (l : Lane) (payload : List Byte) : Handler := fun b staging =>
  match parseEmpty payload with
  | none => badRequest b staging
  | some _ =>
    if b.device = .lockout then unchanged b staging .lockout []
    else
      match (staging.row l).state with
      | .sealed => unchanged b staging .sealed (bytes32 ((staging.row l).digest.getD 0))
      | .sealing => unchanged b staging .sealing []
      | .opened => ⟨b, staging.put l (staging.row l).beginSeal, .reserve⟩

/-- STAGE_OPEN (07 R117). -/
def handleStageOpen (l : Lane) (payload : List Byte) : Handler := fun b staging =>
  match parseEmpty payload with
  | none => badRequest b staging
  | some _ =>
    if b.device = .lockout then unchanged b staging .lockout []
    else
      match (staging.row l).state with
      | .sealing => unchanged b staging .sealing []
      | .opened => unchanged b staging .accepted []
      | .sealed =>
        let reported := match (staging.row l).digest with
          | some d => b.imageReopened l d
          | none => b
        unchanged reported (staging.put l (staging.row l).reopened) .accepted []

/-- READ_STAGING (07 R118). -/
def handleReadStaging (l : Lane) (payload : List Byte) : Handler := fun b staging =>
  match parseReadStaging l payload with
  | none => badRequest b staging
  | some (named, none) => unchanged b staging .accepted ((staging.row named).payload named none)
  | some (named, some (offset, length)) =>
    if beyondImage offset length then unchanged b staging .badEntry [0#8]
    else unchanged b staging .accepted ((staging.row named).payload named (some (offset, length)))

/-- FETCH_NOTICES (09 R155, R156). -/
def handleFetchNotices (l : Lane) (payload : List Byte) : Handler := fun b staging =>
  match parseFetch payload with
  | none => badRequest b staging
  | some maximum =>
    if b.laneState l = .absent then unchanged b staging .notVoting []
    else
      let taken := b.notices.fetched l maximum
      let after := b.notices.afterFetch l maximum
      ⟨{ b with notices := after }, staging,
        .reply .accepted ([byte taken.length, byte (after.unread l)] ++ taken.flatMap Notice.bytes)
          (b.notices.gapOf l)⟩

/-- READ_STATUS (10 R174). -/
def handleReadStatus (payload : List Byte) : Handler := fun b staging =>
  match parseEmpty payload with
  | none => badRequest b staging
  | some _ => unchanged b staging .accepted b.statusPayload

/-- READ_CHANNELS (10 R175). -/
def handleReadChannels (payload : List Byte) : Handler := fun b staging =>
  match parseReadChannels payload with
  | none => badRequest b staging
  | some (first, count) =>
    if 64 < first + count then unchanged b staging .badEntry [0#8]
    else unchanged b staging .accepted (b.channelsPayload first count)

/-- READ_BALLOTS (06 R95, 10 R176). -/
def handleReadBallots (payload : List Byte) : Handler := fun b staging =>
  match parseEmpty payload with
  | none => badRequest b staging
  | some _ => unchanged b staging .accepted (b.ballotsPayload staging)

/-- A kind code that names no request (10 R172). -/
def handleUnknown : Handler := fun b staging => badRequest b staging

/-- The handler of a kind code (11 R178); LINK_RESET, 0Fh, is taken apart from the others. -/
def handlerOf (l : Lane) (kind : Byte) (payload : List Byte) (evalB : Option Evaluation) : Handler :=
  match kind.toNat with
  | 1 => handleJoin l payload
  | 2 => handleLeave l payload evalB
  | 3 => handleKeepalive l payload
  | 4 => handlePropose l payload evalB
  | 5 => handleVeto l payload
  | 6 => handleSupport l payload
  | 7 => handleStageWrite l payload
  | 8 => handleStageSeal l payload
  | 9 => handleStageOpen l payload
  | 10 => handleReadStaging l payload
  | 11 => handleFetchNotices l payload
  | 12 => handleReadStatus payload
  | 13 => handleReadChannels payload
  | 14 => handleReadBallots payload
  | _ => handleUnknown

/-- A request frame that passed checks 1 and 2, at a lane's port. -/
def State.takeFrame (s : State) (l : Lane) (f : RequestFrame) (evalB : Option Evaluation) : State :=
  if f.kind = 0x0F#8 then s.receiveLinkReset l f.kind f.seq f.payload
  else s.receive l f.kind f.seq f.payload (handlerOf l f.kind f.payload evalB)

/-! ## Meanings -/

/-- JOIN. -/
def execJoin (l : Lane) (seq : Byte) (payload : List Byte) (s : State) : Host.Outcome State Fault Refusal :=
  .next (s.receive l 0x01#8 seq payload (handleJoin l payload))

/-- LEAVE. -/
def execLeave (l : Lane) (seq : Byte) (payload : List Byte) (evalB : Option Evaluation) (s : State) :
    Host.Outcome State Fault Refusal :=
  .next (s.receive l 0x02#8 seq payload (handleLeave l payload evalB))

/-- KEEPALIVE. -/
def execKeepalive (l : Lane) (seq : Byte) (payload : List Byte) (s : State) : Host.Outcome State Fault Refusal :=
  .next (s.receive l 0x03#8 seq payload (handleKeepalive l payload))

/-- PROPOSE. -/
def execPropose (l : Lane) (seq : Byte) (payload : List Byte) (evalB : Option Evaluation) (s : State) :
    Host.Outcome State Fault Refusal :=
  .next (s.receive l 0x04#8 seq payload (handlePropose l payload evalB))

/-- VETO. -/
def execVeto (l : Lane) (seq : Byte) (payload : List Byte) (s : State) : Host.Outcome State Fault Refusal :=
  .next (s.receive l 0x05#8 seq payload (handleVeto l payload))

/-- SUPPORT. -/
def execSupport (l : Lane) (seq : Byte) (payload : List Byte) (s : State) : Host.Outcome State Fault Refusal :=
  .next (s.receive l 0x06#8 seq payload (handleSupport l payload))

/-- STAGE_WRITE. -/
def execStageWrite (l : Lane) (seq : Byte) (payload : List Byte) (s : State) : Host.Outcome State Fault Refusal :=
  .next (s.receive l 0x07#8 seq payload (handleStageWrite l payload))

/-- STAGE_SEAL. -/
def execStageSeal (l : Lane) (seq : Byte) (payload : List Byte) (s : State) : Host.Outcome State Fault Refusal :=
  .next (s.receive l 0x08#8 seq payload (handleStageSeal l payload))

/-- STAGE_OPEN. -/
def execStageOpen (l : Lane) (seq : Byte) (payload : List Byte) (s : State) : Host.Outcome State Fault Refusal :=
  .next (s.receive l 0x09#8 seq payload (handleStageOpen l payload))

/-- READ_STAGING. -/
def execReadStaging (l : Lane) (seq : Byte) (payload : List Byte) (s : State) : Host.Outcome State Fault Refusal :=
  .next (s.receive l 0x0A#8 seq payload (handleReadStaging l payload))

/-- FETCH_NOTICES. -/
def execFetchNotices (l : Lane) (seq : Byte) (payload : List Byte) (s : State) : Host.Outcome State Fault Refusal :=
  .next (s.receive l 0x0B#8 seq payload (handleFetchNotices l payload))

/-- READ_STATUS. -/
def execReadStatus (l : Lane) (seq : Byte) (payload : List Byte) (s : State) : Host.Outcome State Fault Refusal :=
  .next (s.receive l 0x0C#8 seq payload (handleReadStatus payload))

/-- READ_CHANNELS. -/
def execReadChannels (l : Lane) (seq : Byte) (payload : List Byte) (s : State) : Host.Outcome State Fault Refusal :=
  .next (s.receive l 0x0D#8 seq payload (handleReadChannels payload))

/-- READ_BALLOTS. -/
def execReadBallots (l : Lane) (seq : Byte) (payload : List Byte) (s : State) : Host.Outcome State Fault Refusal :=
  .next (s.receive l 0x0E#8 seq payload (handleReadBallots payload))

/-- LINK_RESET (10 R173). -/
def execLinkReset (l : Lane) (seq : Byte) (payload : List Byte) (s : State) : Host.Outcome State Fault Refusal :=
  .next (s.receiveLinkReset l 0x0F#8 seq payload)

/-- UNKNOWN_REQUEST_KIND (10 R172). A kind code that names a request after all makes an ill-formed command, taken as an
unknown kind all the same (log 21). -/
def execUnknownRequestKind (l : Lane) (kind seq : Byte) (payload : List Byte) (s : State) :
    Host.Outcome State Fault Refusal :=
  .next (s.receive l kind seq payload handleUnknown)

end Sys2Proof.Machine
end

