-- ==== Sys2Proof/Machine/Links.lean ====
section
/-! DEFINITION. CHIP_SELECT_ASSERT and CHIP_SELECT_RELEASE (10 R162 to R165). -/

namespace Sys2Proof.Machine

/-- The bytes of a transaction judged (10 R164, R165): none, a frame that fails check 1 or 2, or a frame for the port's
further checks. -/
def State.judgeBytes (s : State) (l : Lane) (shiftedIn : List Byte) (evalB : Option Evaluation) : State :=
  if noRequest shiftedIn then s
  else
    match checkFrame shiftedIn with
    | .lengthError => s.setOutcome l .lengthError (arrivedSeq shiftedIn)
    | .crcError => s.setOutcome l .crcError (arrivedSeq shiftedIn)
    | .good f => s.takeFrame l f evalB

/-- The release of chip-select: the delivery, then the bytes shifted in (10 R163). A transaction that a reset covers ends
with neither (10 R177). A release with no transaction does nothing (log 11). -/
def State.endTransaction (s : State) (l : Lane) (shiftedIn : List Byte) (evalB : Option Evaluation) : State :=
  match (s.ports.row l).transaction with
  | .none => s
  | .dead => s.setPort l { s.ports.row l with transaction := .none }
  | .shifting frame isResponse =>
    if s.inReset then s.setPort l { s.ports.row l with transaction := .none }
    else (s.settleDelivery l (State.deliveredWhole frame isResponse shiftedIn)).judgeBytes l shiftedIn evalB

/-- CHIP_SELECT_ASSERT. -/
def execChipSelectAssert (l : Lane) (s : State) : Host.Outcome State Fault Refusal := .next (s.beginTransaction l)

/-- CHIP_SELECT_RELEASE. -/
def execChipSelectRelease (l : Lane) (shiftedIn : List Byte) (evalB : Option Evaluation) (s : State) :
    Host.Outcome State Fault Refusal :=
  .next (s.endTransaction l shiftedIn evalB)

end Sys2Proof.Machine
end

