-- ==== Sys2Proof/Machine/Resets.lean ====
section
/-! DEFINITION. The two resets (05 R92, R93, 10 R177, 12 R185, R186). -/

namespace Sys2Proof.Machine

/-- A transaction that a reset reaches shifts fill bytes for the rest of it and settles nothing (10 R177). -/
def Transaction.covered : Transaction → Transaction
  | .none => .none
  | .shifting _ _ => .dead
  | .dead => .dead

/-- A port after a reset (10 R177). -/
def Port.afterReset (p : Port) : Port := { Port.reset with transaction := p.transaction.covered }

/-- Every block, staging area and port at its value after a reset (05 R92), with the LOCKOUT record and the reset
condition given; the queue of commands and the count of idle steps are the model's own. -/
def State.resetTo (s : State) (record : Option LockoutRecord) (power : Power) : State :=
  { State.reset with
    lockoutRecord := record, power := power, ports := s.ports.mapRows Port.afterReset, clock := s.clock,
    pending := s.pending }

/-- POWER_ON_RESET: power is applied, and power-on reset begins (12 R185). -/
def execPowerOnReset (s : State) : Host.Outcome State Fault Refusal :=
  .next (s.resetTo none { s.power with supplyReset := true })

/-- BROWN_OUT: "every effect of a power-on reset" (12 R185). -/
def execBrownOut (s : State) : Host.Outcome State Fault Refusal :=
  .next (s.resetTo none { s.power with supplyReset := true })

/-- POWER_ON_RESET_END: the part then holds the state of 05 R92, in reset still while RSTN is low (12 R186). Without a
power-on reset in force nothing happens (log 17). -/
def execPowerOnResetEnd (s : State) : Host.Outcome State Fault Refusal :=
  if s.power.supplyReset then .next (s.resetTo none { s.power with supplyReset := false }) else .next s

/-- RSTN_ASSERT: as power-on reset, the LOCKOUT record kept (05 R93). -/
def execRstnAssert (s : State) : Host.Outcome State Fault Refusal :=
  .next (s.resetTo s.lockoutRecord { s.power with rstnLow := true })

/-- RSTN_RELEASE: the part then holds the state of 05 R92, the LOCKOUT record kept (05 R93). With RSTN high already
nothing happens (log 17). -/
def execRstnRelease (s : State) : Host.Outcome State Fault Refusal :=
  if s.power.rstnLow then .next (s.resetTo s.lockoutRecord { s.power with rstnLow := false }) else .next s

end Sys2Proof.Machine
end

