-- ==== Sys2Proof/Config.lean ====
section
/-! DEFINITION. The free values: what the spec leaves to the world and no command supplies. They have no body, so
nothing in Lean can evaluate them or prove a value of them. -/

namespace Sys2Proof

/-- FREE VALUE (log 4). Several timers may stand at 0 at once; "either may be taken first" (02 R25, 04 R76, 08 R138). The
rank of the timer with number `k` at the idle step counted `clock`: the lowest is taken. -/
opaque Config.dueRank (clock k : Nat) : Nat

/-- FREE VALUE (log 5). What the second evaluator delivers at a close that the expiry of timer `k` brings about in the idle
step counted `clock`; `none` when it computes what the first one does (02 R37, R38). -/
opaque Config.secondEvaluation (clock k : Nat) : Option Evaluation

end Sys2Proof
end

