-- ==== Sys2Proof/Machine/Timers.lean ====
section
/-! DEFINITION. The timers and what happens of itself: the expiry commands, the completion of a seal, the readback and
scrub events, and the step on an empty queue (log 2). -/

namespace Sys2Proof.Machine

/-- The timers of the part (00 section 1.6): round deadline (02 R18), leases and graces (04 R60, R64), ballot lifetimes
(06 R99), seals in flight (07 R115), settle and mismatch timers (08 R135, R137). -/
inductive TimerName
  | deadline
  | lease (lane : Lane)
  | grace (lane : Lane)
  | lifetime (slot : BallotSlot)
  | sealing (lane : Lane)
  | settle (channel : Channel)
  | mismatch (channel : Channel)
  deriving DecidableEq, Repr

/-- Every timer of the part. -/
def allTimers : List TimerName :=
  [.deadline] ++ (List.finRange 4).map .lease ++ (List.finRange 4).map .grace ++ (List.finRange 8).map .lifetime
    ++ (List.finRange 4).map .sealing ++ (List.finRange 64).map .settle ++ (List.finRange 64).map .mismatch

/-- The number of a timer, by which Config names it. -/
def TimerName.number : TimerName → Nat
  | .deadline => 0
  | .lease l => 1 + l.val
  | .grace l => 5 + l.val
  | .lifetime i => 9 + i.val
  | .sealing l => 17 + l.val
  | .settle c => 21 + c.val
  | .mismatch c => 85 + c.val

/-- The open ballot in a slot. -/
def Blocks.ballotIn (b : Blocks) (slot : BallotSlot) : Option Ballot := b.ballots.find? (fun x => x.slot == slot)

namespace State

/-- What a timer has left, `none` when it does not run: lease and grace timers run in GATHERING, RUNNING and SAFE_HOLD
only (04 R60, R64, R77), and no timer runs in reset (12 R186). -/
def timer (s : State) (t : TimerName) : Timer :=
  if s.inReset then none
  else
    match t with
    | .deadline => s.vote.deadline
    | .lease l => if s.membershipTimersRun then (s.lanes.row l).lease else none
    | .grace l => if s.membershipTimersRun then (s.lanes.row l).grace else none
    | .lifetime slot => (s.ballotIn slot).map Ballot.lifetime
    | .sealing l => (s.staging.row l).sealTimer
    | .settle c => (s.channelOutput c).settle
    | .mismatch c => (s.channelOutput c).mismatch

/-! ## Seal completion (07 R115) -/

/-- A seal's response put in place of its reservation; a flushed reservation leaves nothing to fill. -/
def fillReservation (fill : Byte → Byte → Response) : List ResponseSlot → List ResponseSlot
  | [] => []
  | .reservation kind seq :: rest => .response (fill kind seq) :: rest
  | .response r :: rest => .response r :: fillReservation fill rest

/-- The completion of a seal in flight: staging state and digest, then the response of the reserved slot with its
fixed fields as they stand now (07 R115, 10 R168). -/
def completeSeal (s : State) (l : Lane) : State :=
  let area := s.staging.row l
  let p := s.ports.row l
  let fill := fun kind seq => s.responseNow l kind seq area.sealOutcome area.sealPayload false
  (s.setStaging l area.completed).setPort l { p with queue := fillReservation fill p.queue }

/-! ## Expiry -/

/-- What the expiry of a timer that runs does. -/
def expire (s : State) (evalB : Option Evaluation) : TimerName → State
  | .deadline => s.setBlocks (s.toBlocks.closeRound evalB)
  | .lease l => s.setBlocks (s.toBlocks.leaseExpires l evalB)
  | .grace l => s.setBlocks (s.toBlocks.graceExpires l)
  | .lifetime slot =>
    match s.ballotIn slot with
    | some x => s.setBlocks (s.toBlocks.ballotExpires x)
    | none => s
  | .sealing l => s.completeSeal l
  | .settle c => s.setBlocks (s.toBlocks.settleExpires c)
  | .mismatch c => s.setBlocks (s.toBlocks.mismatchExpires c)

/-- The event of a timer that stands at 0: it runs out now. At any other moment it "does not take place" (02 R25, 04 R62,
R64, 08 R138): the timer was stopped or started again, or its time is not over (log 3). -/
def expireNow (s : State) (t : TimerName) (evalB : Option Evaluation) : State :=
  if s.timer t = some 0 then (s.expire evalB t).updateAttn else s

/-- The completion of a seal in flight, at any moment of it (07 R115, log 22). -/
def completeNow (s : State) (l : Lane) : State :=
  match s.timer (.sealing l) with
  | some _ => (s.completeSeal l).updateAttn
  | none => s

end State

/-! ## Meanings -/

/-- ROUND_DEADLINE_EXPIRY (02 R24). -/
def execRoundDeadlineExpiry (evalB : Option Evaluation) (s : State) : Host.Outcome State Fault Refusal :=
  .next (s.expireNow .deadline evalB)

/-- LEASE_EXPIRY (04 R62, R63). -/
def execLeaseExpiry (l : Lane) (evalB : Option Evaluation) (s : State) : Host.Outcome State Fault Refusal :=
  .next (s.expireNow (.lease l) evalB)

/-- GRACE_EXPIRY (04 R64). -/
def execGraceExpiry (l : Lane) (s : State) : Host.Outcome State Fault Refusal :=
  .next (s.expireNow (.grace l) none)

/-- BALLOT_LIFETIME_EXPIRY (06 R99). -/
def execBallotLifetimeExpiry (slot : BallotSlot) (s : State) : Host.Outcome State Fault Refusal :=
  .next (s.expireNow (.lifetime slot) none)

/-- SEAL_COMPLETION (07 R115). -/
def execSealCompletion (l : Lane) (s : State) : Host.Outcome State Fault Refusal := .next (s.completeNow l)

/-- SETTLE_EXPIRY (08 R136). -/
def execSettleExpiry (c : Channel) (s : State) : Host.Outcome State Fault Refusal :=
  .next (s.expireNow (.settle c) none)

/-- MISMATCH_TIMER_EXPIRY (08 R137). -/
def execMismatchTimerExpiry (c : Channel) (s : State) : Host.Outcome State Fault Refusal :=
  .next (s.expireNow (.mismatch c) none)

/-- READBACK_LEVEL_CHANGE (08 R134); no change when the level is the one already read, and in reset. -/
def execReadbackLevelChange (c : Channel) (level : ReadbackLevel) (s : State) : Host.Outcome State Fault Refusal :=
  if s.inReset = true ∨ (s.channelOutput c).readback = level then .next s
  else .next (s.setBlocks (s.toBlocks.readbackChanges c level))

/-- SCRUB_RECHECK (05 R85): a store check failure leads to LOCKOUT (R87); in LOCKOUT it "changes nothing" (R88), and in
reset no scrub runs. Which record failed makes no difference. -/
def execScrubRecheck (_record : ProtectedRecord) (agrees : Bool) (s : State) : Host.Outcome State Fault Refusal :=
  if agrees = true ∨ s.inReset = true ∨ s.device = .lockout then .next s
  else .next (s.setBlocks (s.toBlocks.enterLockout .storeCheck)).updateAttn

/-! ## The idle step -/

/-- A timer one ms later; a stopped timer stays stopped. -/
def Timer.later (t : Timer) : Timer := t.map (fun n => n - 1)

/-- The timers of the blocks one ms later; leases and graces only where they run. -/
def Blocks.timersLater (b : Blocks) : Blocks :=
  { b with
    vote := { b.vote with deadline := Timer.later b.vote.deadline }
    lanes :=
      if b.membershipTimersRun then
        b.lanes.mapRows (fun r => { r with lease := Timer.later r.lease, grace := Timer.later r.grace })
      else b.lanes
    ballots := b.ballots.map (fun x => { x with lifetime := x.lifetime - 1 })
    output := { b.output with
      channels := b.output.channels.mapRows
        (fun o => { o with settle := Timer.later o.settle, mismatch := Timer.later o.mismatch }) } }

namespace State

/-- Every timer one ms later. -/
def timersLater (s : State) : State :=
  { s.setBlocks s.toBlocks.timersLater with
    staging := s.staging.mapRows (fun a => { a with sealTimer := Timer.later a.sealTimer }) }

/-- The timers that stand at 0. -/
def dueTimers (s : State) : List TimerName := allTimers.filter (fun t => s.timer t == some 0)

/-- The due timer of lowest rank by the free rank of Config, `none` when no timer is due (log 4). -/
def nextDue (s : State) : Option TimerName :=
  s.dueTimers.foldr (fun t best =>
    match best with
    | none => some t
    | some u => if Config.dueRank s.clock t.number ≤ Config.dueRank s.clock u.number then some t else some u) none

/-- One idle step (log 2): a due timer expires, one in a step; with none due 1 ms passes and every running timer counts
down. In reset no timer runs (log 25). -/
def idle (s : State) : State :=
  let after :=
    if s.inReset then s
    else
      match s.nextDue with
      | some t => s.expireNow t (Config.secondEvaluation s.clock t.number)
      | none => s.timersLater
  { after with clock := s.clock + 1 }

end State

end Sys2Proof.Machine
end

