-- ==== Sys2Proof/Machine/Dispatch.lean ====
section
/-! DEFINITION. One arm for each command: its meaning. -/

namespace Sys2Proof.Machine

def exec (i : Instr) (s : State) : Host.Outcome State Fault Refusal :=
  match i with
  | .powerOnReset => Sys2Proof.Machine.execPowerOnReset s
  | .brownOut => Sys2Proof.Machine.execBrownOut s
  | .powerOnResetEnd => Sys2Proof.Machine.execPowerOnResetEnd s
  | .rstnAssert => Sys2Proof.Machine.execRstnAssert s
  | .rstnRelease => Sys2Proof.Machine.execRstnRelease s
  | .chipSelectAssert lane => Sys2Proof.Machine.execChipSelectAssert lane s
  | .chipSelectRelease lane shiftedIn evalB => Sys2Proof.Machine.execChipSelectRelease lane shiftedIn evalB s
  | .join lane seq payload => Sys2Proof.Machine.execJoin lane seq payload s
  | .leave lane seq payload evalB => Sys2Proof.Machine.execLeave lane seq payload evalB s
  | .keepalive lane seq payload => Sys2Proof.Machine.execKeepalive lane seq payload s
  | .propose lane seq payload evalB => Sys2Proof.Machine.execPropose lane seq payload evalB s
  | .veto lane seq payload => Sys2Proof.Machine.execVeto lane seq payload s
  | .support lane seq payload => Sys2Proof.Machine.execSupport lane seq payload s
  | .stageWrite lane seq payload => Sys2Proof.Machine.execStageWrite lane seq payload s
  | .stageSeal lane seq payload => Sys2Proof.Machine.execStageSeal lane seq payload s
  | .stageOpen lane seq payload => Sys2Proof.Machine.execStageOpen lane seq payload s
  | .readStaging lane seq payload => Sys2Proof.Machine.execReadStaging lane seq payload s
  | .fetchNotices lane seq payload => Sys2Proof.Machine.execFetchNotices lane seq payload s
  | .readStatus lane seq payload => Sys2Proof.Machine.execReadStatus lane seq payload s
  | .readChannels lane seq payload => Sys2Proof.Machine.execReadChannels lane seq payload s
  | .readBallots lane seq payload => Sys2Proof.Machine.execReadBallots lane seq payload s
  | .linkReset lane seq payload => Sys2Proof.Machine.execLinkReset lane seq payload s
  | .unknownRequestKind lane kind seq payload => Sys2Proof.Machine.execUnknownRequestKind lane kind seq payload s
  | .roundDeadlineExpiry evalB => Sys2Proof.Machine.execRoundDeadlineExpiry evalB s
  | .leaseExpiry lane evalB => Sys2Proof.Machine.execLeaseExpiry lane evalB s
  | .graceExpiry lane => Sys2Proof.Machine.execGraceExpiry lane s
  | .ballotLifetimeExpiry slot => Sys2Proof.Machine.execBallotLifetimeExpiry slot s
  | .sealCompletion lane => Sys2Proof.Machine.execSealCompletion lane s
  | .readbackLevelChange channel level => Sys2Proof.Machine.execReadbackLevelChange channel level s
  | .settleExpiry channel => Sys2Proof.Machine.execSettleExpiry channel s
  | .mismatchTimerExpiry channel => Sys2Proof.Machine.execMismatchTimerExpiry channel s
  | .scrubRecheck record agrees => Sys2Proof.Machine.execScrubRecheck record agrees s

end Sys2Proof.Machine
end

