-- ==== Sys2Proof/Safety.lean ====
section
/-! DEFINITION. The laws the spec says the part keeps, as predicates on states, and the words claims about requests use. -/

namespace Sys2Proof.Machine

/-! ## Requests -/

/-- A request frame with sequence number `q` and payload `p` passes every port check of lane `l` (10 R165): out of reset,
payload within 256 bytes, the expected number, a free slot. -/
abbrev Takes (s : State) (l : Lane) (q : Byte) (p : List Byte) : Prop :=
  s.inReset = false ∧ p.length ≤ 256 ∧ (s.ports.row l).expected = q ∧ (s.ports.row l).queue.length < 4

/-- The ports other than that of lane `l` keep all but their ATTN lines. -/
def OtherPortsKept (s t : State) (l : Lane) : Prop :=
  ∀ m, m ≠ l → t.ports.row m = { s.ports.row m with attn := (t.ports.row m).attn }

/-- The port of lane `l` took request `q` and keeps its transaction (10 R165, R166). -/
def PortTook (s t : State) (l : Lane) (q : Byte) : Prop :=
  (t.ports.row l).expected = q + 1 ∧ (t.ports.row l).outcome = .taken ∧ (t.ports.row l).outcomeSeq = some q ∧
  (t.ports.row l).transaction = (s.ports.row l).transaction ∧ (t.ports.row l).attn = true ∧ OtherPortsKept s t l

/-- Request `q` of kind `k` was taken from lane `l` and answered: its complete response is the last slot of the queue, with
its FAILN flag and NOTICES indication as they stand after the request (10 R168, R171). -/
def Answered (s t : State) (l : Lane) (k q : Byte) (o : Outcome) (payload : List Byte) (gap : Bool) : Prop :=
  PortTook s t l q ∧
  (t.ports.row l).queue
    = (s.ports.row l).queue ++ [.response ⟨k, q, o, payload, t.failn, decide (0 < t.notices.unread l), gap⟩]

/-- The reset condition, the idle count and the queue of commands stand: what no command but a reset changes. -/
abbrev OutsideKept (s t : State) : Prop := t.power = s.power ∧ t.clock = s.clock ∧ t.pending = s.pending

/-- Only ports differ. -/
abbrev OnlyPorts (s t : State) : Prop := t.toBlocks = s.toBlocks ∧ t.staging = s.staging ∧ OutsideKept s t

/-- The lane a request command comes from. -/
def sender : Instr → Option Lane
  | .join l _ _ => some l
  | .leave l _ _ _ => some l
  | .keepalive l _ _ => some l
  | .propose l _ _ _ => some l
  | .veto l _ _ => some l
  | .support l _ _ => some l
  | .stageWrite l _ _ => some l
  | .stageSeal l _ _ => some l
  | .stageOpen l _ _ => some l
  | .readStaging l _ _ => some l
  | .fetchNotices l _ _ => some l
  | .readStatus l _ _ => some l
  | .readChannels l _ _ => some l
  | .readBallots l _ _ => some l
  | .linkReset l _ _ => some l
  | .unknownRequestKind l _ _ _ => some l
  | _ => none

/-- What the second evaluator delivers, where a request command carries it. -/
def secondEvaluator : Instr → Option Evaluation
  | .leave _ _ _ e => e
  | .propose _ _ _ e => e
  | _ => none

/-- The commands of the two resets. -/
def isResetCommand : Instr → Bool
  | .powerOnReset => true
  | .brownOut => true
  | .powerOnResetEnd => true
  | .rstnAssert => true
  | .rstnRelease => true
  | _ => false

/-- The commands whose request renews: "JOIN, KEEPALIVE and PROPOSE" (04 R61). -/
def isRenewing : Instr → Bool
  | .join _ _ _ => true
  | .keepalive _ _ _ => true
  | .propose _ _ _ _ => true
  | _ => false

/-- Which payload forms are malformed (10 R172, 11 R181), in terms of the bytes alone. -/
def Malformed : Instr → Prop
  | .join _ _ p => p.length ≠ 4
  | .leave _ _ p _ => p ≠ []
  | .keepalive _ _ p => p ≠ []
  | .propose _ _ p _ =>
    p.length < 3 ∨ (p.getD 2 0).toNat = 0 ∨ 64 < (p.getD 2 0).toNat ∨ p.length ≠ 3 + 3 * (p.getD 2 0).toNat
  | .veto _ _ p =>
    p.length < 1 ∨ (p.getD 0 0).toNat = 0 ∨ 64 < (p.getD 0 0).toNat ∨ p.length ≠ 1 + 2 * (p.getD 0 0).toNat ∨
      ∃ i, i < (p.getD 0 0).toNat ∧ p.getD (2 + 2 * i) 0 ≠ 0x01#8 ∧ p.getD (2 + 2 * i) 0 ≠ 0x02#8
  | .support _ _ p =>
    ¬ ((p.length = 5 ∧ p.getD 0 0 = 0x01#8) ∨
       (p.length = 2 ∧ p.getD 0 0 = 0x02#8 ∧ (p.getD 1 0).toNat ≤ 63) ∨
       (p.length = 2 ∧ p.getD 0 0 = 0x03#8 ∧ (p.getD 1 0).toNat ≤ 3) ∨
       (1 ≤ p.length ∧ p.length ≤ 5 ∧ p.getD 0 0 = 0x04#8))
  | .stageWrite _ _ p => p.length < 3 ∨ 194 < p.length
  | .stageSeal _ _ p => p ≠ []
  | .stageOpen _ _ p => p ≠ []
  | .readStaging l _ p =>
    ¬ ((p.length = 1 ∧ (p.getD 0 0).toNat ≤ 3) ∨
       (p.length = 4 ∧ (p.getD 0 0).toNat = l.val ∧ 1 ≤ (p.getD 3 0).toNat ∧ (p.getD 3 0).toNat ≤ 192))
  | .fetchNotices _ _ p => p.length ≠ 1 ∨ (p.getD 0 0).toNat = 0 ∨ 6 < (p.getD 0 0).toNat
  | .readStatus _ _ p => p ≠ []
  | .readChannels _ _ p =>
    p.length ≠ 2 ∨ 63 < (p.getD 0 0).toNat ∨ (p.getD 1 0).toNat = 0 ∨ 32 < (p.getD 1 0).toNat
  | .readBallots _ _ p => p ≠ []
  | .linkReset _ _ _ => False
  | .unknownRequestKind _ _ _ _ => True
  | _ => False

/-! ## The state after a reset -/

/-- Every item of 05 R92, of 02 R41, 04 R53 and 08 R146, with the LOCKOUT record given; ports apart. -/
def HoldsResetState (s : State) (record : Option LockoutRecord) : Prop :=
  s.device = .unconfigured ∧ s.lockoutRecord = record ∧ s.failn = false ∧
  s.active = none ∧ s.pendingRecord = none ∧
  (∀ l a, Memory.read (s.staging.row l).image a = 0#8) ∧
  (∀ l, (s.staging.row l).state = .opened ∧ (s.staging.row l).digest = none ∧
    (s.staging.row l).sealTimer = none) ∧
  s.vote.nextRound = 1 ∧ s.vote.openRound = .none ∧ s.vote.proposers = 0 ∧ s.vote.deadline = none ∧
  (∀ l c, (s.vote.proposals.row l).row c = none) ∧
  (∀ c, (s.vote.channels.row c) = ⟨0, 0, false, false⟩) ∧
  (∀ l, s.lanes.row l = ⟨.absent, 0, none, none, false, false⟩) ∧
  s.ballots = [] ∧
  (∀ l c, (s.output.vetoes.row l).has c = false) ∧
  (∀ c, s.channelOutput c = ⟨⟨.unused, 0⟩, .deasserted, .deEnergized, .none, none, none⟩) ∧
  s.notices.queue = [] ∧ s.notices.next = 0 ∧ ∀ l, s.notices.readers.row l = none

/-- A port after a reset (10 R177): a transaction in progress shifts fill bytes for the rest of it. -/
def HoldsResetPorts (s t : State) : Prop :=
  ∀ l, (t.ports.row l).expected = 0 ∧ (t.ports.row l).queue = [] ∧ (t.ports.row l).outcome = .none ∧
    (t.ports.row l).outcomeSeq = none ∧ (t.ports.row l).attn = false ∧
    (t.ports.row l).transaction = (if (s.ports.row l).transaction = .none then .none else .dead)

/-! ## Laws of the memory -/

/-- Every image the part holds is in the canonical form. -/
def ImagesCanonical (s : State) : Prop :=
  (∀ l, Memory.wf (s.staging.row l).image) ∧ ∀ p, s.pendingRecord = some p → Memory.wf p.image

/-! ## Laws of the indications -/

/-- "FAILN is asserted exactly while the device is in LOCKOUT or at least one channel's fault state is UNSAFE" (05 R90). -/
def FailnLaw (s : State) : Prop :=
  s.failn = true ↔ (s.device = .lockout ∨ ∃ c, s.fault c = .unsafeState)

/-- Every ATTN line is as 10 R170 gives, and low in reset (12 R185, R186). -/
def AttnLaw (s : State) : Prop :=
  ∀ l, (s.ports.row l).attn = true ↔
    (s.inReset = false ∧ ((s.ports.row l).queue ≠ [] ∨ 0 < s.notices.unread l))

/-! ## Laws of the queues -/

/-- The queue holds exactly the entries that some reader has unread: no reader's cursor lies behind the oldest entry, and
one stands at it, or the queue is empty (09 R149, R154). -/
def HoldsTheUnread (n : NoticeUnit) : Prop :=
  (∀ l, n.unread l ≤ n.queue.length) ∧ (n.queue = [] ∨ ∃ l, n.unread l = n.queue.length)

/-- The notice queue holds at most 48 entries, consecutively numbered up to the next number; no reader's cursor lies
behind the oldest entry; "the set of lanes whose state is not ABSENT" are the readers (09 R147, R149). While there is a
reader the queue holds exactly the entries that some reader has unread (R154), and "A lane whose GAP mark is set always
has at least one unread entry" (R156). -/
def NoticeLaw (s : State) : Prop :=
  s.notices.queue.length ≤ 48 ∧
  (∀ i n, s.notices.queue[i]? = some n →
    n.seq = s.notices.next - BitVec.ofNat 16 (s.notices.queue.length - i)) ∧
  (∀ l, s.notices.unread l ≤ s.notices.queue.length) ∧
  (∀ l, (s.notices.readers.row l).isSome = true ↔ s.laneState l ≠ .absent) ∧
  ∀ l r, s.notices.readers.row l = some r →
    HoldsTheUnread s.notices ∧ (r.gap = true → 0 < s.notices.unread l)

/-- A slot that is a reservation. -/
def ResponseSlot.isReservation : ResponseSlot → Bool
  | .response _ => false
  | .reservation _ _ => true

/-- "Each lane's response queue holds at most 4 responses, counting a slot reserved by a seal in flight" (10 R168), "A lane
has at most one reservation at a time" (R169), only while its own seal is in flight; and the digest and the seal timer
of a staging area go with its state (07 R112, R115). -/
def ResponseLaw (s : State) : Prop :=
  ∀ l, (s.ports.row l).queue.length ≤ 4 ∧ (s.ports.row l).queue.countP ResponseSlot.isReservation ≤ 1 ∧
    ((s.ports.row l).queue.countP ResponseSlot.isReservation = 1 → (s.staging.row l).state = .sealing) ∧
    ((s.staging.row l).digest.isSome = true ↔ (s.staging.row l).state = .sealed) ∧
    ((s.staging.row l).sealTimer.isSome = true ↔ (s.staging.row l).state = .sealing)

/-! ## Laws of the outputs -/

/-- The largest value in the domain of a type (01 R2). -/
def domainMax : ChannelType → Nat
  | .unused => 0
  | .discrete => 1
  | .level => 1000

/-- The settle timer of a channel whose drive value `before` becomes `after` (01 R10, 08 R135): it starts, or starts again,
with the settle time given when type or number differs, and runs on as it was when neither does; a settle towards UNUSED
ends within the event. -/
def settleAfter (before : Drive) (timer : Timer) (after : Drive) (settleTime : Nat) : Timer :=
  if after = before then timer else if after.type = .unused then none else some settleTime

/-- The conditions under which the mismatch timer of a channel runs (08 R137): supervised, NONE or FAULTED, no settle, and
the readback level disagreeing with the driven state (R135). -/
def MismatchConditions (s : State) (c : Channel) : Prop :=
  let o := s.channelOutput c
  s.channelType c ≠ .unused ∧ (s.entry c).readbackChecked = true ∧ o.fault ≠ .unsafeState ∧ o.settle = none ∧
    ((o.drive.energized = true ∧ o.readback = .deEnergized) ∨
      (o.drive.energized = false ∧ o.readback = .energized))

/-- What an event that leaves state `t` does to the mismatch timer of a channel that stood at `timer` (08 R137): while the
conditions hold it runs on, or starts with the settle time; otherwise it is stopped. -/
def MismatchFollows (t : State) (c : Channel) (timer : Timer) : Prop :=
  (MismatchConditions t c →
    (t.channelOutput c).mismatch = (if timer = none then some (t.entry c).settleTime else timer)) ∧
  (¬ MismatchConditions t c → (t.channelOutput c).mismatch = none)

/-- Every channel is driven by the table of 01 R8, and its line carries its drive value (08 R133); its agreed value and
its drive value lie "within the domain of that channel's current type", and so do the values proposed while RUNNING
(01 R2). Its mismatch timer runs exactly while the conditions of 08 R137 hold. -/
def DriveLaw (s : State) : Prop :=
  (∀ c, (s.channelOutput c).drive = s.driveOf c ∧ (s.channelOutput c).line = (s.channelOutput c).drive.line ∧
    s.agreed c ≤ domainMax (s.channelType c) ∧
    (s.channelOutput c).drive.value ≤ domainMax (s.channelOutput c).drive.type) ∧
  (s.device = .running → ∀ l c v, (s.vote.proposals.row l).row c = some v → v ≤ domainMax (s.channelType c)) ∧
  ∀ c, (s.channelOutput c).mismatch.isSome = true ↔ MismatchConditions s c

/-! ## Laws of the round -/

/-- "A round is open only while the device is RUNNING" (02 R16), and one is open all that time; the deadline timer runs
exactly in OPEN_COLLECTING (R18); "Every slot of a row outside the proposer set is absent" (R17). -/
def RoundLaw (s : State) : Prop :=
  (s.vote.openRound ≠ .none ↔ s.device = .running) ∧
  (s.vote.deadline.isSome = true ↔ s.vote.openRound = .collecting) ∧
  ∀ l, s.vote.proposers.has l = false → ∀ c, (s.vote.proposals.row l).row c = none

/-! ## A lane that leaves VOTING -/

/-- The VOTING lane `l` may leave VOTING with no consequence for round or device state (02 R26, 04 R74, 05 R79): in
SAFE_HOLD; in GATHERING when the lanes that remain are fewer than Q; in RUNNING when at least Q remain and the open round
is not collecting or lacks the proposal of one that remains. -/
def LeavesQuietly (s : State) (l : Lane) : Prop :=
  (s.device = .safeHold ∧ s.vote.openRound = .none) ∨
  (s.device = .gathering ∧ s.vote.openRound = .none ∧ s.votingCount ≤ s.config.quorum) ∨
  (s.device = .running ∧ s.config.quorum < s.votingCount ∧
    (s.vote.openRound ≠ .collecting ∨
      ∃ m, m ≠ l ∧ s.laneState m = .voting ∧ s.vote.proposers.has m = false))

/-! ## The notices of a close -/

/-- The round notices of the close of a round, before the close (02 R36, 03 R50): DISSENT with the channels that have a
dissenting lane, UNAGREED with the NO_QUORUM channels and whether each is STALE after the round, WITHHELD with the
withheld channels and the groups that withhold each; a list that would be empty is not posted. -/
def closeNotices (b : Blocks) : List NoticeBody :=
  let groupsOf := withholdingGroups b.config.groups b.agreed b.candidate
  let dissents := (List.finRange 64).filterMap (fun c =>
    if b.dissentOn c = 0 then none else some (c, b.dissentOn c))
  let unagreed := (List.finRange 64).filterMap (fun c =>
    if b.outcomeOf c = .noQuorum then some (c, b.newStale c) else none)
  let withheld := (List.finRange 64).filterMap (fun c =>
    if groupsOf c = 0 then none else some (c, groupsOf c))
  (if dissents = [] then [] else [.dissent b.vote.nextRound dissents])
    ++ (if unagreed = [] then [] else [.unagreed b.vote.nextRound unagreed])
    ++ (if withheld = [] then [] else [.withheld b.vote.nextRound withheld])

/-- Notices posted one after the other with one stamp. -/
def posted (stamp : BitVec 16) (n : NoticeUnit) (bodies : List NoticeBody) : NoticeUnit :=
  bodies.foldl (fun u body => u.post stamp body) n

/-- The lane dissented in the round that closes: on at least one channel (02 R34). -/
abbrev Dissented (b : Blocks) (l : Lane) : Prop := ∃ c, (b.dissentOn c).has l = true

/-- The strike count a committed close leaves to a lane (04 R67). -/
def strikesAfter (b : Blocks) (l : Lane) : Nat :=
  if b.vote.proposers.has l = true ∧ b.laneState l = .voting then
    (if Dissented b l then (b.lanes.row l).strikes + 1 else (b.lanes.row l).strikes - 1)
  else (b.lanes.row l).strikes

/-- A committed close excludes the lane: it is named in the report and its count reaches the threshold (04 R67, R68). -/
abbrev StruckOut (b : Blocks) (l : Lane) : Prop :=
  b.vote.proposers.has l = true ∧ b.laneState l = .voting ∧ b.config.strikeThreshold ≤ strikesAfter b l

/-! ## Laws of the membership -/

/-- Whenever the device is RUNNING, the VOTING count is at least Q (05 R79); and once configured every supporter of an open
ballot is VOTING (06 R94). -/
def QuorumLaw (s : State) : Prop :=
  (s.device = .running → s.config.quorum ≤ s.votingCount) ∧
  ∀ x ∈ s.ballots, ∀ l, x.supporters.has l = true → s.device ≠ .unconfigured → s.laneState l = .voting

/-- The timers and flags a lane record holds by its state (04 R54, R60, R64): lease in CANDIDATE, VOTING, and SUSPECT with
return pending; grace in SUSPECT without; return pending in SUSPECT only. The strike count is below the threshold of the
active configuration in every state but EXCLUDED, and does not pass it there (R68). -/
def LaneRecordLaw (s : State) : Prop :=
  ∀ l,
    ((s.lanes.row l).lease.isSome = true ↔
      (s.laneState l = .candidate ∨ s.laneState l = .voting ∨
        (s.laneState l = .suspect ∧ (s.lanes.row l).returnPending = true))) ∧
    ((s.lanes.row l).grace.isSome = true ↔
      (s.laneState l = .suspect ∧ (s.lanes.row l).returnPending = false)) ∧
    ((s.lanes.row l).returnPending = true → s.laneState l = .suspect) ∧
    ∀ a, s.active = some a →
      (s.lanes.row l).strikes ≤ a.record.strikeThreshold ∧
      (s.laneState l ≠ .excluded → (s.lanes.row l).strikes < a.record.strikeThreshold)

/-- "A lane is in LINKED state only while no configuration is active, and a lane is in CANDIDATE, VOTING, SUSPECT or
EXCLUDED state only if the active configuration enrols it" (04 R55); who may hold vetoes on what (08 R128). -/
def MembershipLaw (s : State) : Prop :=
  (s.device = .unconfigured → s.active = none) ∧
  (∀ l, s.laneState l = .linked → s.active = none ∧ (s.device = .unconfigured ∨ s.device = .lockout)) ∧
  (∀ l, s.laneState l ≠ .absent → s.laneState l ≠ .linked →
    ∃ a, s.active = some a ∧ a.record.enrolled.has l = true) ∧
  ∀ l c, (s.output.vetoes.row l).has c = true →
    (s.laneState l = .candidate ∨ s.laneState l = .voting ∨ s.laneState l = .suspect) ∧
    s.channelType c ≠ .unused

/-! ## Laws of the ballots -/

/-- "The table holds at most 8 ballots, no two with the same action and argument, and none without a supporter" (06 R94);
no two share a slot. -/
def BallotLaw (s : State) : Prop :=
  s.ballots.length ≤ 8 ∧ (s.ballots.map Ballot.slot).Nodup ∧ (s.ballots.map Ballot.action).Nodup ∧
  ∀ x ∈ s.ballots, x.supporters ≠ 0

/-! ## Timers -/

/-- The command of a timer's expiry. -/
def expiryCommand (evalB : Option Evaluation) : TimerName → Instr
  | .deadline => .roundDeadlineExpiry evalB
  | .lease l => .leaseExpiry l evalB
  | .grace l => .graceExpiry l
  | .lifetime slot => .ballotLifetimeExpiry slot
  | .sealing l => .sealCompletion l
  | .settle c => .settleExpiry c
  | .mismatch c => .mismatchTimerExpiry c

/-- Lease and grace timers run (04 R77, 05 R78). -/
abbrev MembershipTimersRun (s : State) : Prop :=
  s.device = .gathering ∨ s.device = .running ∨ s.device = .safeHold

/-! ## The checks of a seal, on the bytes of the image (07 R119, R121, 03 R43, 11 R184) -/

/-- A byte of an image as a number. -/
abbrev imageByte (m : Memory) (a : Nat) : Nat := (Memory.read m a).toNat

/-- Two bytes of an image, most significant first. -/
abbrev imageWord (m : Memory) (a : Nat) : Nat := imageByte m a * 256 + imageByte m (a + 1)

/-- The number of lanes the image enrols. -/
def enrolledCount (m : Memory) : Nat := (List.range 4).countP (fun n => (Memory.read m 0).getLsbD n)

/-- The entry at offset `o` passes check 8, as 11 R184 sums it up. -/
def EntryPasses (m : Memory) (o : Nat) : Prop :=
  (∀ k, k < 5 → imageByte m (o + k) = 0) ∨
  (imageByte m o = 1 ∧ imageWord m (o + 1) % 32768 ≤ 1 ∧ imageByte m (o + 3) = 0 ∧ 1 ≤ imageByte m (o + 4) % 16) ∨
  (imageByte m o = 2 ∧ imageWord m (o + 1) % 32768 ≤ 1000 ∧ imageByte m (o + 3) ≤ 100 ∧
    1 ≤ imageByte m (o + 4) % 16)

/-- The group at offset `o` passes checks 1 to 4 of 03 R43: at most 8 members, each a DISCRETE channel, none twice. -/
def MembersPass (m : Memory) (o : Nat) : Prop :=
  imageByte m o ≤ 8 ∧
  ∀ i, i < imageByte m o → imageByte m (o + 1 + i) ≤ 63 ∧ imageByte m (16 + 5 * imageByte m (o + 1 + i)) = 1 ∧
    ∀ j, j < i → imageByte m (o + 1 + j) ≠ imageByte m (o + 1 + i)

/-- The group at offset `o` passes check 5 of 03 R43: every member has fallback OFF. -/
def FallbacksPass (m : Memory) (o : Nat) : Prop :=
  ∀ i, i < imageByte m o → imageWord m (16 + 5 * imageByte m (o + 1 + i) + 1) % 32768 = 0

/-- The offset is that of a reserved byte (11 R184). -/
def Reserved (m : Memory) (a : Nat) : Prop :=
  (9 ≤ a ∧ a ≤ 15) ∨ (444 ≤ a ∧ a ≤ 447) ∨
  ∃ g i, g < 12 ∧ imageByte m (336 + 9 * g) ≤ i ∧ i < 8 ∧ a = 336 + 9 * g + 1 + i

/-- The check that fails with a reason and an index passes; a check that is never made passes. -/
def Passes (m : Memory) : InvalidReason → Nat → Prop
  | .enrolled, i => i = 0 → 2 ≤ enrolledCount m ∧ imageByte m 0 < 16
  | .quorum, i => i = 0 → enrolledCount m < 2 * imageByte m 1 ∧ imageByte m 1 ≤ enrolledCount m
  | .lease, i => i = 0 → 5 ≤ imageByte m 2
  | .grace, i => i = 0 → 10 ≤ imageWord m 3 ∧ imageWord m 3 ≤ 2000
  | .deadline, i => i = 0 → 2 ≤ imageByte m 5 ∧ imageByte m 5 ≤ 100
  | .strikes, i => i = 0 → 1 ≤ imageByte m 6 ∧ imageByte m 6 ≤ 15
  | .lifetime, i => i = 0 → 20 ≤ imageWord m 7 ∧ imageWord m 7 ≤ 5000
  | .channel, c => c < 64 → EntryPasses m (16 + 5 * c)
  | .groupMember, g => g < 12 → MembersPass m (336 + 9 * g)
  | .groupFallback, g => g < 12 → FallbacksPass m (336 + 9 * g)
  | .reserved, a => Reserved m a → imageByte m a = 0

/-- The place of a check in the order of 07 R119 and, within a group, of 03 R43. -/
def checkPlace : InvalidReason → Nat → Nat
  | .enrolled, _ => 0
  | .quorum, _ => 1
  | .lease, _ => 2
  | .grace, _ => 3
  | .deadline, _ => 4
  | .strikes, _ => 5
  | .lifetime, _ => 6
  | .channel, c => 1000 + c
  | .groupMember, g => 2000 + 2 * g
  | .groupFallback, g => 2001 + 2 * g
  | .reserved, a => 3000 + a

/-! ## Laws of the configuration -/

/-- A sealed image passed the checks of 07 R119, and its seal timer does not run; so did the pending record; every
supporter of a COMMIT_CONFIG ballot holds the image it supports; the active record was decoded from such an image. -/
def ImagesValid (s : State) : Prop :=
  (∀ l, (s.staging.row l).state = .sealed → validate (s.staging.row l).image = none) ∧
  (∀ l, (s.staging.row l).sealTimer.isSome = true → (s.staging.row l).state = .sealing) ∧
  (∀ p, s.pendingRecord = some p → validate p.image = none) ∧
  (∀ x ∈ s.ballots, ∀ d, x.action = .commitConfig d → ∀ l, x.supporters.has l = true →
    (s.staging.row l).carries d = true) ∧
  ∀ a, s.active = some a → ∃ m, validate m = none ∧ a.record = decodeConfig m

/-- "The quorum of the active configuration is greater than half the number of its enrolled lanes and no greater than that
number, and at least two lanes are enrolled" (07 R111). -/
def ConfigLaw (s : State) : Prop :=
  ∀ a, s.active = some a →
    IndexSet.size a.record.enrolled < 2 * a.record.quorum ∧ a.record.quorum ≤ IndexSet.size a.record.enrolled ∧
    2 ≤ IndexSet.size a.record.enrolled

/-- "For every exclusion group of the active configuration, at most one member channel is ON in the agreed image, and at
most one is ON in the drive image" (03 R44). -/
def ExclusionLaw (s : State) : Prop :=
  ∀ g c d, c ∈ s.config.groups.row g → d ∈ s.config.groups.row g →
    (s.agreed c = 1 → s.agreed d = 1 → c = d) ∧
    ((s.channelOutput c).drive.value = 1 → (s.channelOutput d).drive.value = 1 → c = d)

end Sys2Proof.Machine
end

