-- ==== Sys2Proof/Certificates/Slice0/Obligations.lean ====
section
/-! DEFINITION. The statements for the provers. A statement holds for every state unless it says otherwise; one that rests
on a choice of the model names its log entry. -/

section Statements

open Sys2Proof Sys2Proof.Machine

/-! ## Steps -/

/-- A step takes the command at the front of the queue and runs it on the rest. -/
def Obligations.StepRunsFrontCommand : Prop :=
  ∀ (i : Instr) (rest : List Instr) (s : State), s.pending = i :: rest → step s = exec i { s with pending := rest }

/-- A step on an empty queue is one idle step (the model's choice, log 2): it leaves the queue and the reset condition and
does nothing else in reset (log 25). When a timer stands at 0, one timer that does expires, as its expiry command has it
(which one, and what the second evaluator delivers, are free: logs 4 and 5). When none does, 1 ms passes: every running
timer has 1 ms less (leases and graces only where they run) and nothing else changes. The timers are those the state
holds, each under its name. -/
def Obligations.IdleStepPassesOneMs : Prop :=
  ∀ s : State, s.pending = [] →
    (∃ t, step s = .next t ∧ t.pending = [] ∧ t.power = s.power ∧ t.clock = s.clock + 1 ∧
      (s.inReset = true → t = { s with clock := s.clock + 1 }) ∧
      ((∃ n, s.timer n = some 0) →
        ∃ n e u, s.timer n = some 0 ∧ exec (expiryCommand e n) s = .next u ∧ t = { u with clock := s.clock + 1 }) ∧
      (s.inReset = false → (∀ n, s.timer n ≠ some 0) →
        let later := fun timer : Timer => timer.map (fun n => n - 1)
        t = { s with
          clock := s.clock + 1
          vote := { s.vote with deadline := later s.vote.deadline }
          lanes := t.lanes
          ballots := s.ballots.map (fun x => { x with lifetime := x.lifetime - 1 })
          output := { s.output with channels := t.output.channels }
          staging := t.staging } ∧
        (∀ l, t.lanes.row l = (if MembershipTimersRun s
          then { s.lanes.row l with lease := later (s.lanes.row l).lease, grace := later (s.lanes.row l).grace }
          else s.lanes.row l)) ∧
        (∀ l, t.staging.row l = { s.staging.row l with sealTimer := later (s.staging.row l).sealTimer }) ∧
        ∀ c, t.channelOutput c = { s.channelOutput c with
          settle := later (s.channelOutput c).settle, mismatch := later (s.channelOutput c).mismatch })) ∧
    (s.inReset = true → ∀ n, s.timer n = none) ∧
    (s.inReset = false →
      s.timer .deadline = s.vote.deadline ∧
      (∀ l, (MembershipTimersRun s →
          s.timer (.lease l) = (s.lanes.row l).lease ∧ s.timer (.grace l) = (s.lanes.row l).grace) ∧
        (¬ MembershipTimersRun s → s.timer (.lease l) = none ∧ s.timer (.grace l) = none) ∧
        s.timer (.sealing l) = (s.staging.row l).sealTimer) ∧
      (BallotLaw s → ∀ x ∈ s.ballots, s.timer (.lifetime x.slot) = some x.lifetime) ∧
      (∀ i, (∀ x ∈ s.ballots, x.slot ≠ i) → s.timer (.lifetime i) = none) ∧
      ∀ c, s.timer (.settle c) = (s.channelOutput c).settle ∧
        s.timer (.mismatch c) = (s.channelOutput c).mismatch)

/-- An expiry takes place only when its timer stands at 0 (log 3), the completion of a seal only while its seal is in
flight. So the event that stops a timer or starts it again, when it is taken first, keeps the expiry from taking place:
after a KEEPALIVE neither the lease nor the grace of its lane expires, and after any command that changes a channel's
drive value its settle does not expire. -/
def Obligations.ExpiryTakesPlaceOnlyWhenDue : Prop :=
  (∀ (s : State) (n : TimerName) (e : Option Evaluation), (∀ l, n ≠ .sealing l) → s.timer n ≠ some 0 →
    exec (expiryCommand e n) s = .next s) ∧
  (∀ (s : State) (l : Lane), s.timer (.sealing l) = none → exec (.sealCompletion l) s = .next s) ∧
  (∀ (s t : State) (l : Lane) (q : Byte) (e : Option Evaluation), Takes s l q [] → s.device ≠ .lockout →
    s.laneState l = .candidate ∨ s.laneState l = .voting ∨ (s.laneState l = .suspect ∧ s.device = .running ∧
      (s.lanes.row l).returnPending = false) →
    1 ≤ s.config.lease → ((s.lanes.row l).grace.isSome = true → s.laneState l = .suspect) →
    exec (.keepalive l q []) s = .next t →
    exec (.leaseExpiry l e) t = .next t ∧ exec (.graceExpiry l) t = .next t) ∧
  ∀ (i : Instr) (s t : State) (c : Channel), ImagesValid s → exec i s = .next t →
    (t.channelOutput c).drive ≠ (s.channelOutput c).drive → exec (.settleExpiry c) t = .next t

/-- Every command has an effect and none stops the part; no command touches the queue of commands or the idle count. None
but a reset command touches the reset condition, and while the part is held in reset none of them changes anything except
the transaction of a link. -/
def Obligations.EveryCommandAnswersNext : Prop :=
  ∀ (i : Instr) (s : State), ∃ t, exec i s = .next t ∧ t.pending = s.pending ∧ t.clock = s.clock ∧
    (isResetCommand i = false → t.power = s.power ∧
      (s.inReset = true → t.toBlocks = s.toBlocks ∧ t.staging = s.staging ∧
        ∀ l, ∃ x, (x = .none ∨ x = .dead ∨ x = (s.ports.row l).transaction) ∧
          t.ports.row l = { s.ports.row l with transaction := x }))

/-! ## Resets -/

/-- POWER_ON_RESET, BROWN_OUT and RSTN_ASSERT leave every block, staging area and port at its reset value, and so do
POWER_ON_RESET_END and RSTN_RELEASE when they end their reset; RSTN keeps the LOCKOUT record, the others clear it. Without
that reset in force POWER_ON_RESET_END and RSTN_RELEASE do nothing (log 17). -/
def Obligations.ResetsLeaveTheResetState : Prop :=
  ∀ s : State,
    (∃ t, exec .powerOnReset s = .next t ∧ exec .brownOut s = .next t ∧ HoldsResetState t none ∧
      HoldsResetPorts s t ∧ t.power = ⟨true, s.power.rstnLow⟩ ∧ t.clock = s.clock ∧ t.pending = s.pending) ∧
    (∃ t, exec .rstnAssert s = .next t ∧ HoldsResetState t s.lockoutRecord ∧ HoldsResetPorts s t ∧
      t.power = ⟨s.power.supplyReset, true⟩ ∧ t.clock = s.clock ∧ t.pending = s.pending) ∧
    (s.power.supplyReset = true →
      ∃ t, exec .powerOnResetEnd s = .next t ∧ HoldsResetState t none ∧ HoldsResetPorts s t ∧
        t.power = ⟨false, s.power.rstnLow⟩ ∧ t.clock = s.clock ∧ t.pending = s.pending) ∧
    (s.power.supplyReset = false → exec .powerOnResetEnd s = .next s) ∧
    (s.power.rstnLow = true →
      ∃ t, exec .rstnRelease s = .next t ∧ HoldsResetState t s.lockoutRecord ∧ HoldsResetPorts s t ∧
        t.power = ⟨s.power.supplyReset, false⟩ ∧ t.clock = s.clock ∧ t.pending = s.pending) ∧
    (s.power.rstnLow = false → exec .rstnRelease s = .next s)

/-- The state after reset: every item at its reset value, out of reset, no transaction; the empty queue and the idle count
0 are the model's choice (log 18). Every law holds there. -/
def Obligations.LawsHoldAtReset : Prop :=
  HoldsResetState State.reset none ∧ HoldsResetPorts State.reset State.reset ∧ State.reset.inReset = false ∧
  State.reset.pending = [] ∧ State.reset.clock = 0 ∧
  ImagesCanonical State.reset ∧ FailnLaw State.reset ∧ AttnLaw State.reset ∧ NoticeLaw State.reset ∧
  ResponseLaw State.reset ∧ DriveLaw State.reset ∧ RoundLaw State.reset ∧ QuorumLaw State.reset ∧
  LaneRecordLaw State.reset ∧ MembershipLaw State.reset ∧ BallotLaw State.reset ∧ ImagesValid State.reset ∧
  ConfigLaw State.reset ∧ ExclusionLaw State.reset

/-! ## Laws that every step keeps -/

/-- Every image the part holds stays in the canonical form. -/
def Obligations.ImagesStayCanonical : Prop :=
  ∀ s t : State, ImagesCanonical s → step s = .next t → ImagesCanonical t

/-- FAILN stays asserted exactly in LOCKOUT or while a channel is UNSAFE. -/
def Obligations.FailnLawKept : Prop := ∀ s t : State, FailnLaw s → step s = .next t → FailnLaw t

/-- Every ATTN line stays asserted exactly while its queue is not empty or its lane has unread notices. -/
def Obligations.AttnLawKept : Prop := ∀ s t : State, AttnLaw s → step s = .next t → AttnLaw t

/-- The notice queue stays within 48 consecutively numbered entries with every cursor inside, and its readers stay exactly
the lanes that are not ABSENT. While there is a reader the queue holds exactly the entries that some reader has unread,
and a GAP mark stands only on a lane with unread entries. -/
def Obligations.NoticeLawKept : Prop := ∀ s t : State, NoticeLaw s → step s = .next t → NoticeLaw t

/-- Every response queue stays within 4 slots with at most one reservation, that of the lane's own seal in flight. -/
def Obligations.ResponseLawKept : Prop := ∀ s t : State, ResponseLaw s → step s = .next t → ResponseLaw t

/-- Every channel stays driven by the table of 01 R8, its line showing its drive value; agreed values, drive values and the
values proposed for an open round stay within the domain of the channel's type; the mismatch timer of a channel runs
exactly while the conditions of 08 R137 hold. -/
def Obligations.DriveLawKept : Prop :=
  ∀ s t : State, ImagesValid s → RoundLaw s → DriveLaw s → step s = .next t → DriveLaw t

/-- A round stays open exactly while RUNNING, the deadline running exactly while it collects, and every row of the proposal
table outside the proposer set absent. -/
def Obligations.RoundLawKept : Prop := ∀ s t : State, RoundLaw s → step s = .next t → RoundLaw t

/-- RUNNING stays backed by at least Q VOTING lanes. -/
def Obligations.QuorumLawKept : Prop := ∀ s t : State, QuorumLaw s → step s = .next t → QuorumLaw t

/-- The timers and the return-pending flag of every lane stay those of its state, and its strike count stays below the
threshold unless it is EXCLUDED. -/
def Obligations.LaneRecordLawKept : Prop :=
  ∀ s t : State, ImagesValid s → LaneRecordLaw s → step s = .next t → LaneRecordLaw t

/-- A lane stays LINKED only while no configuration is active, CANDIDATE, VOTING, SUSPECT or EXCLUDED only while the active
one enrols it; and vetoes stay with lanes and channels that may hold them. -/
def Obligations.MembershipLawKept : Prop := ∀ s t : State, MembershipLaw s → step s = .next t → MembershipLaw t

/-- The ballot table stays within 8 ballots of different slots and actions, none without a supporter. -/
def Obligations.BallotLawKept : Prop := ∀ s t : State, BallotLaw s → step s = .next t → BallotLaw t

/-- Sealed images, the pending record and the active record stay valid by the checks of a seal, and supporters of a
COMMIT_CONFIG ballot keep the image they support (no two ballots sharing a slot); so the active configuration stays
legal. -/
def Obligations.ActiveConfigurationStaysLegal : Prop :=
  (∀ s t : State, BallotLaw s → ImagesValid s → step s = .next t → ImagesValid t) ∧
    ∀ s : State, ImagesValid s → ConfigLaw s

/-- In every exclusion group at most one member stays ON, in the agreed image and in the drive image. -/
def Obligations.ExclusionLawKept : Prop :=
  ∀ s t : State, ImagesValid s → DriveLaw s → ExclusionLaw s → step s = .next t → ExclusionLaw t

/-! ## The port checks and the take of a request -/

/-- A frame refused by check 3 or 4 sets the port outcome with its sequence byte and changes nothing else. -/
def Obligations.RefusedFrameSetsOnlyPortOutcome : Prop :=
  ∀ (i : Instr) (l : Lane) (f : RequestFrame) (s : State), sender i = some l → i.frame? = some f →
    i.wellFormed = true → f.kind ≠ 0x0F#8 → s.inReset = false →
    (f.seq ≠ (s.ports.row l).expected → f.seq + 1 = (s.ports.row l).expected →
      exec i s = .next (s.setPort l
        { s.ports.row l with outcome := .duplicate, outcomeSeq := some f.seq })) ∧
    (f.seq ≠ (s.ports.row l).expected → f.seq + 1 ≠ (s.ports.row l).expected →
      exec i s = .next (s.setPort l
        { s.ports.row l with outcome := .sequence, outcomeSeq := some f.seq })) ∧
    (f.seq = (s.ports.row l).expected → 4 ≤ (s.ports.row l).queue.length →
      exec i s = .next (s.setPort l
        { s.ports.row l with outcome := .queueFull, outcomeSeq := some f.seq }))

/-- A taken request whose kind names none, or whose payload is malformed for its kind, is answered BAD_REQUEST with no
payload; nothing else changes, but a JOIN, KEEPALIVE or PROPOSE still renews. An ill-formed UNKNOWN_REQUEST_KIND, whose
code names a request after all (01h to 0Fh), is answered BAD_REQUEST and renews nothing too: the model's choice
(log 21). -/
def Obligations.MalformedRequestIsBadRequest : Prop :=
  ∀ (i : Instr) (l : Lane) (f : RequestFrame) (s : State), sender i = some l → i.frame? = some f →
    Takes s l f.seq f.payload → Malformed i →
    ∃ t, exec i s = .next t ∧ Answered s t l f.kind f.seq .badRequest [] false ∧ t.staging = s.staging ∧
      t.toBlocks = (if isRenewing i then s.toBlocks.renew l else s.toBlocks) ∧ OutsideKept s t

/-- LINK_RESET: the queue flushed but for its own response, the expected number 0, the port outcome TAKEN; nothing but the
port changes, and a response of the open transaction can no longer be delivered (log 12). -/
def Obligations.LinkResetEmptiesThePort : Prop :=
  ∀ (s : State) (l : Lane) (q : Byte) (p : List Byte), s.inReset = false → p.length ≤ 256 →
    ∃ t, exec (.linkReset l q p) s = .next t ∧ OnlyPorts s t ∧ OtherPortsKept s t l ∧
      (t.ports.row l).expected = 0 ∧ (t.ports.row l).outcome = .taken ∧ (t.ports.row l).outcomeSeq = some q ∧
      (t.ports.row l).attn = true ∧
      (t.ports.row l).queue
        = [.response ⟨0x0F#8, q, .accepted, [], s.failn, decide (0 < s.notices.unread l), false⟩] ∧
      ∀ frame, (t.ports.row l).transaction ≠ .shifting frame true

/-! ## Transactions -/

/-- At the assertion of chip-select, out of reset, the port chooses the oldest complete response, or a NONE frame when
there is none at the front; nothing else changes. The frame is an 8-byte header, the payload and the CRC-16 over both. -/
def Obligations.ChipSelectChoosesTheFrame : Prop :=
  ∀ (s : State) (l : Lane), s.inReset = false → (s.ports.row l).transaction = .none →
    let p := s.ports.row l
    let frame := fun (kind seq outcome flags : Byte) (payload : List Byte) =>
      let head := [kind, seq, outcome, p.outcome.code, p.outcomeSeq.getD 0x00#8, flags,
        byte (payload.length / 256), byte payload.length]
      head ++ payload ++ [(crc16 (head ++ payload)).extractLsb' 8 8, (crc16 (head ++ payload)).extractLsb' 0 8]
    let flagged := fun (flags : Byte) (queued notices gap failn : Bool) =>
      flags.getLsbD 0 = queued ∧ flags.getLsbD 1 = notices ∧ flags.getLsbD 2 = gap ∧ flags.getLsbD 3 = failn ∧
      flags.getLsbD 4 = p.outcomeSeq.isSome ∧ flags.getLsbD 5 = false ∧ flags.getLsbD 6 = false ∧
      flags.getLsbD 7 = false
    ∃ t x flags, exec (.chipSelectAssert l) s = .next t ∧
      t = { s with ports := s.ports.put l { p with transaction := x } } ∧
      (∀ r rest, p.queue = .response r :: rest →
        x = .shifting (frame r.kind r.seq r.outcome.code flags r.payload) true ∧
        flagged flags (decide (rest ≠ [])) r.notices r.gap r.failn) ∧
      ((∀ r rest, p.queue ≠ .response r :: rest) →
        x = .shifting (frame 0x00#8 0x00#8 0x00#8 flags []) false ∧
        flagged flags (decide (p.queue ≠ [])) (decide (0 < s.notices.unread l)) false s.failn)

/-- A release whose bytes bring no request that is taken. With no byte or only bytes of 00h shifted in, the port outcome
stands. With any other run of bytes, the length check (too short, a length field above 256, fewer bytes than it says, or
a byte after the end that is not 00h) sets it to LENGTH_ERROR, and past that a CRC-16 other than the computed one sets it
to CRC_ERROR. In each case, whether a response or a NONE frame went out, the transaction ends, the expected number stands,
and the response leaves the queue exactly when it was delivered whole: when at least as many whole bytes came in as the
frame has (log 10, as R161 counts bytes). -/
def Obligations.ReleaseWithoutRequestSettlesDelivery : Prop :=
  ∀ (s : State) (l : Lane) (frame bytes : List Byte) (isResponse : Bool) (e : Option Evaluation),
    s.inReset = false → (s.ports.row l).transaction = .shifting frame isResponse →
    let len := (bytes.getD 2 0).toNat * 256 + (bytes.getD 3 0).toNat
    let badLength := bytes.length < 6 ∨ 256 < len ∨ bytes.length < 6 + len ∨
      ∃ i, 6 + len ≤ i ∧ i < bytes.length ∧ bytes.getD i 0 ≠ 0#8
    let badCrc := crc16Bytes (bytes.take (4 + len)) ≠ (bytes.drop (4 + len)).take 2
    let ends := fun (outcome : PortOutcome) (seq : Option Byte) =>
      ∃ t, exec (.chipSelectRelease l bytes e) s = .next t ∧ OnlyPorts s t ∧ OtherPortsKept s t l ∧
        (t.ports.row l).transaction = .none ∧ (t.ports.row l).expected = (s.ports.row l).expected ∧
        (t.ports.row l).outcome = outcome ∧ (t.ports.row l).outcomeSeq = seq ∧
        (t.ports.row l).queue = (if isResponse = true ∧ frame.length ≤ bytes.length
          then (s.ports.row l).queue.tail else (s.ports.row l).queue)
    ((∀ b ∈ bytes, b = 0#8) → ends (s.ports.row l).outcome (s.ports.row l).outcomeSeq) ∧
    ((∃ b ∈ bytes, b ≠ 0#8) → badLength → ends .lengthError bytes[1]?) ∧
    ((∃ b ∈ bytes, b ≠ 0#8) → ¬ badLength → badCrc → ends .crcError bytes[1]?)

/-- The checks of a release read back exactly the request frame that was shifted in, whatever fill bytes follow. -/
def Obligations.RequestFrameReadsBack : Prop :=
  ∀ (kind seq : Byte) (payload : List Byte) (fill : Nat), payload.length ≤ 256 →
    checkFrame (requestFrame kind seq payload ++ List.replicate fill 0#8) = .good ⟨kind, seq, payload⟩

/-- A request whose frame is shifted in during a transaction has the effect of the request command (log 1), on the state
after the delivery of that transaction, which is whole when at least as many whole bytes came in as the frame has
(log 10). -/
def Obligations.ReleaseTakesTheRequestShiftedIn : Prop :=
  ∀ (i : Instr) (l : Lane) (f : RequestFrame) (s : State) (frame : List Byte) (isResponse : Bool) (fill : Nat),
    sender i = some l → i.frame? = some f → i.wellFormed = true → s.inReset = false →
    (s.ports.row l).transaction = .shifting frame isResponse →
    let bytes := requestFrame f.kind f.seq f.payload ++ List.replicate fill 0#8
    exec (.chipSelectRelease l bytes (secondEvaluator i)) s
      = exec i (s.settleDelivery l (isResponse && decide (frame.length ≤ bytes.length)))

/-! ## Membership -/

/-- JOIN by the device state and the lane's state. In LOCKOUT it is refused with no effect. From an ABSENT lane:
LINKED while UNCONFIGURED, whatever the digest; else NOT_ENROLLED, DIGEST_MISMATCH, or CANDIDATE with the lease started,
which SAFE_HOLD and GATHERING admit at once (RUNNING entered when that brings the VOTING count to Q). From a LINKED lane
nothing; from CANDIDATE and VOTING a renewal; from SUSPECT the return, admitted at once outside RUNNING; from EXCLUDED a
refusal that sets rejoin-requested. The response carries the state after the request. -/
def Obligations.JoinByState : Prop :=
  ∀ (s : State) (l : Lane) (q : Byte) (d : Digest), Takes s l q (bytes32 d) →
    let r := s.lanes.row l
    let lease := some s.config.lease
    let joined := fun state : LaneState =>
      (s.notices.joinReader l).post s.vote.lastEnded (.memberChange l .absent state .joined)
    let admitted := (joined .candidate).post s.vote.lastEnded (.memberChange l .candidate .voting .admitted)
    let voting : LaneRecord := { r with state := .voting, lease := lease, returnPending := false }
    ∃ t, exec (.join l q (bytes32 d)) s = .next t ∧ t.staging = s.staging ∧ OutsideKept s t ∧
      (s.device = .lockout →
        Answered s t l 0x01#8 q .lockout [(s.laneState l).code] false ∧ t.toBlocks = s.toBlocks) ∧
      (s.device = .unconfigured → s.laneState l = .absent →
        Answered s t l 0x01#8 q .accepted [0x02#8] false ∧
        t.toBlocks = { s.toBlocks with
          lanes := s.lanes.put l { r with state := .linked }, notices := joined .linked }) ∧
      (∀ a, s.device ≠ .lockout → s.device ≠ .unconfigured → s.active = some a → s.laneState l = .absent →
        (a.record.enrolled.has l = false →
          Answered s t l 0x01#8 q .notEnrolled [0x01#8] false ∧ t.toBlocks = s.toBlocks) ∧
        (a.record.enrolled.has l = true → a.digest ≠ d →
          Answered s t l 0x01#8 q .digestMismatch [0x01#8] false ∧ t.toBlocks = s.toBlocks) ∧
        (a.record.enrolled.has l = true → a.digest = d →
          (s.device = .running →
            Answered s t l 0x01#8 q .accepted [0x03#8] false ∧
            t.toBlocks = { s.toBlocks with
              lanes := s.lanes.put l { r with state := .candidate, lease := lease }
              notices := joined .candidate }) ∧
          (s.device = .safeHold ∨ (s.device = .gathering ∧ s.votingCount + 1 < s.config.quorum) →
            Answered s t l 0x01#8 q .accepted [0x04#8] false ∧
            t.toBlocks = { s.toBlocks with lanes := s.lanes.put l voting, notices := admitted }) ∧
          (s.device = .gathering → s.config.quorum ≤ s.votingCount + 1 →
            Answered s t l 0x01#8 q .accepted [0x04#8] false ∧ t.device = .running ∧
            t.lanes.row l = voting ∧
            (∀ m, m ≠ l → t.lanes.row m = (if s.laneState m = .voting
              then { s.lanes.row m with lease := lease } else s.lanes.row m)) ∧
            t.vote.openRound = .idle ∧ t.vote.deadline = none ∧ t.vote.proposers = 0 ∧
            (∀ m c, (t.vote.proposals.row m).row c = none) ∧ t.vote.nextRound = s.vote.nextRound ∧
            t.vote.channels = s.vote.channels ∧
            t.notices = admitted.post s.vote.lastEnded (.stateChange .gathering .running .quorumReached) ∧
            t.active = s.active ∧ t.pendingRecord = s.pendingRecord ∧ t.ballots = s.ballots ∧
            t.lockoutRecord = s.lockoutRecord ∧ t.failn = s.failn ∧ t.output.vetoes = s.output.vetoes ∧
            ∀ c, t.fault c = s.fault c ∧ (t.channelOutput c).readback = (s.channelOutput c).readback ∧
              (t.channelOutput c).drive = (if s.channelType c = .unused then ⟨.unused, 0⟩
                else if s.fault c = .none ∧ ∀ m, (s.output.vetoes.row m).has c = false
                then ⟨s.channelType c, s.agreed c⟩ else ⟨s.channelType c, s.fallback c⟩)))) ∧
      (s.device ≠ .lockout →
        (s.laneState l = .linked →
          Answered s t l 0x01#8 q .accepted [0x02#8] false ∧ t.toBlocks = s.toBlocks) ∧
        (s.laneState l = .candidate →
          Answered s t l 0x01#8 q .accepted [0x03#8] false ∧
          t.toBlocks = { s.toBlocks with lanes := s.lanes.put l { r with lease := lease } }) ∧
        (s.laneState l = .voting →
          Answered s t l 0x01#8 q .accepted [0x04#8] false ∧
          t.toBlocks = { s.toBlocks with lanes := s.lanes.put l { r with lease := lease } }) ∧
        (s.laneState l = .suspect → s.device = .running →
          Answered s t l 0x01#8 q .rejoining [0x05#8] false ∧
          t.toBlocks = { s.toBlocks with
            lanes := s.lanes.put l { r with
              returnPending := true, grace := if r.returnPending = true then r.grace else none, lease := lease } }) ∧
        (s.laneState l = .suspect → r.returnPending = false → s.device = .gathering ∨ s.device = .safeHold →
          Answered s t l 0x01#8 q .rejoining [0x04#8] false ∧
          t.lanes.row l = { r with state := .voting, lease := lease, grace := none }) ∧
        (s.laneState l = .excluded →
          Answered s t l 0x01#8 q .excluded [0x06#8] false ∧
          t.toBlocks = { s.toBlocks with lanes := s.lanes.put l { r with rejoinRequested := true } }))

/-- KEEPALIVE by the device state and the lane's state: outcome, effect, and the lane state in the response. -/
def Obligations.KeepaliveByState : Prop :=
  ∀ (s : State) (l : Lane) (q : Byte), Takes s l q [] →
    ∃ t, exec (.keepalive l q []) s = .next t ∧ t.staging = s.staging ∧ OutsideKept s t ∧
      (s.device = .lockout →
        Answered s t l 0x03#8 q .lockout [(s.laneState l).code] false ∧ t.toBlocks = s.toBlocks) ∧
      (s.device ≠ .lockout →
        (s.laneState l = .absent →
          Answered s t l 0x03#8 q .notVoting [0x01#8] false ∧ t.toBlocks = s.toBlocks) ∧
        (s.laneState l = .linked →
          Answered s t l 0x03#8 q .accepted [0x02#8] false ∧ t.toBlocks = s.toBlocks) ∧
        (s.laneState l = .candidate →
          Answered s t l 0x03#8 q .accepted [0x03#8] false ∧
          t.toBlocks = { s.toBlocks with
            lanes := s.lanes.put l { s.lanes.row l with lease := some s.config.lease } }) ∧
        (s.laneState l = .voting →
          Answered s t l 0x03#8 q .accepted [0x04#8] false ∧
          t.toBlocks = { s.toBlocks with
            lanes := s.lanes.put l { s.lanes.row l with lease := some s.config.lease } }) ∧
        (s.laneState l = .excluded →
          Answered s t l 0x03#8 q .excluded [0x06#8] false ∧ t.toBlocks = s.toBlocks) ∧
        (s.laneState l = .suspect → s.device = .running →
          Answered s t l 0x03#8 q .rejoining [0x05#8] false ∧
          t.toBlocks = { s.toBlocks with
            lanes := s.lanes.put l { s.lanes.row l with
              returnPending := true
              grace := if (s.lanes.row l).returnPending = true then (s.lanes.row l).grace else none
              lease := some s.config.lease } }) ∧
        (s.laneState l = .suspect → (s.lanes.row l).returnPending = false →
          s.device = .gathering ∨ s.device = .safeHold →
          Answered s t l 0x03#8 q .rejoining [0x04#8] false ∧ t.laneState l = .voting ∧
          (t.lanes.row l).lease = some s.config.lease ∧ (t.lanes.row l).grace = none ∧
          (t.lanes.row l).returnPending = false))

/-- LEAVE: a lane that takes part goes ABSENT, its timers stopped, its flags clear, its strikes kept, its vetoes dropped,
its place among readers and supporters lost, and nothing else of the round, the configuration or the channels' faults
changes; ABSENT, EXCLUDED and LOCKOUT leave everything as it was. A VOTING lane is covered where its leaving neither
completes a round, nor costs the quorum, nor leaves a GATHERING part with one. -/
def Obligations.LeaveMakesAbsent : Prop :=
  ∀ (s : State) (l : Lane) (q : Byte) (e : Option Evaluation), Takes s l q [] →
    (s.device = .lockout →
      ∃ t, exec (.leave l q [] e) s = .next t ∧ OnlyPorts s t ∧ Answered s t l 0x02#8 q .lockout [] false) ∧
    (s.device ≠ .lockout → s.laneState l = .absent →
      ∃ t, exec (.leave l q [] e) s = .next t ∧ OnlyPorts s t ∧ Answered s t l 0x02#8 q .accepted [] false) ∧
    (s.device ≠ .lockout → s.laneState l = .excluded →
      ∃ t, exec (.leave l q [] e) s = .next t ∧ OnlyPorts s t ∧ Answered s t l 0x02#8 q .excluded [] false) ∧
    ((s.device ≠ .lockout ∧
        (s.laneState l = .linked ∨ s.laneState l = .candidate ∨ s.laneState l = .suspect)) ∨
      (s.laneState l = .voting ∧ LeavesQuietly s l) →
      ∃ t, exec (.leave l q [] e) s = .next t ∧ Answered s t l 0x02#8 q .accepted [] false ∧
        t.lanes = s.lanes.put l { s.lanes.row l with
          state := .absent, lease := none, grace := none, returnPending := false, rejoinRequested := false } ∧
        t.output.vetoes = s.output.vetoes.put l 0 ∧ t.notices.readers.row l = none ∧
        (s.laneState l = .linked ∨ s.laneState l = .voting → ∀ x ∈ t.ballots, x.supporters.has l = false) ∧
        (s.laneState l = .candidate ∨ s.laneState l = .suspect → t.ballots = s.ballots) ∧
        (∀ c, t.fault c = s.fault c) ∧ t.vote = s.vote ∧ t.device = s.device ∧ t.active = s.active ∧
        t.pendingRecord = s.pendingRecord ∧ t.lockoutRecord = s.lockoutRecord ∧ t.failn = s.failn ∧
        t.staging = s.staging ∧ OutsideKept s t)

/-- The expiries of the membership and of a ballot. The lease of a CANDIDATE lane expires: it goes ABSENT; of a VOTING
lane: it goes SUSPECT with the grace timer started (where its leaving neither completes a round, nor costs the quorum, nor
leaves a GATHERING part with one); of a returning SUSPECT lane: return pending clears and the grace timer starts again.
The grace timer of a SUSPECT lane expires: it goes EXCLUDED, cause GRACE_EXPIRED, with its strikes kept and its vetoes
dropped. A ballot's lifetime expires: it leaves the table and BALLOT_ENDED is posted with cause EXPIRED and the supporters
it had, however many they are. -/
def Obligations.MembershipAndBallotExpiries : Prop :=
  (∀ (s : State) (l : Lane) (e : Option Evaluation),
    (s.timer (.lease l) = some 0 → s.laneState l = .candidate →
      ∃ t, exec (.leaseExpiry l e) s = .next t ∧ OutsideKept s t ∧ t.staging = s.staging ∧ t.vote = s.vote ∧
        t.device = s.device ∧ t.ballots = s.ballots ∧ t.active = s.active ∧
        t.lanes = s.lanes.put l { s.lanes.row l with
          state := .absent, lease := none, grace := none, returnPending := false, rejoinRequested := false } ∧
        t.output.vetoes = s.output.vetoes.put l 0 ∧ t.notices.readers.row l = none) ∧
    (s.timer (.lease l) = some 0 → s.laneState l = .voting → LeavesQuietly s l →
      ∃ t, exec (.leaseExpiry l e) s = .next t ∧ OutsideKept s t ∧ t.staging = s.staging ∧ t.vote = s.vote ∧
        t.device = s.device ∧ t.active = s.active ∧ t.output = s.output ∧
        t.lanes = s.lanes.put l { s.lanes.row l with
          state := .suspect, lease := none, grace := some s.config.grace, returnPending := false } ∧
        (t.notices.readers.row l).isSome = (s.notices.readers.row l).isSome ∧
        ∀ x ∈ t.ballots, x.supporters.has l = false) ∧
    (s.timer (.lease l) = some 0 → s.laneState l = .suspect → (s.lanes.row l).returnPending = true →
      ∃ t, exec (.leaseExpiry l e) s = .next t ∧ OutsideKept s t ∧ t.staging = s.staging ∧
        t.toBlocks = { s.toBlocks with
          lanes := s.lanes.put l { s.lanes.row l with
            returnPending := false, lease := none, grace := some s.config.grace } }) ∧
    (s.timer (.grace l) = some 0 → s.laneState l = .suspect → (s.lanes.row l).returnPending = false →
      ∃ t, exec (.graceExpiry l) s = .next t ∧ OutsideKept s t ∧ t.staging = s.staging ∧ t.vote = s.vote ∧
        t.device = s.device ∧ t.ballots = s.ballots ∧ t.active = s.active ∧ t.failn = s.failn ∧
        t.lanes = s.lanes.put l { s.lanes.row l with
          state := .excluded, lease := none, grace := none, returnPending := false } ∧
        t.output.vetoes = s.output.vetoes.put l 0 ∧
        t.notices = s.notices.post s.vote.lastEnded (.memberChange l .suspect .excluded .graceExpired))) ∧
  ∀ (s : State) (x : Ballot), BallotLaw s → x ∈ s.ballots → s.timer (.lifetime x.slot) = some 0 →
    ∃ t, exec (.ballotLifetimeExpiry x.slot) s = .next t ∧ OutsideKept s t ∧ t.staging = s.staging ∧
      t.toBlocks = { s.toBlocks with
        ballots := s.ballots.filter (fun y => decide (y.slot ≠ x.slot))
        notices := s.notices.post s.vote.lastEnded (.ballotEnded x.slot x.action .expired x.supporters) }

/-- A VOTING lane leaves VOTING, by its lease or by LEAVE, and takes the VOTING count below Q while RUNNING: SAFE_HOLD. The
round is discarded with its number consumed, the agreed image and every drive are at fallback, every ready lane is
admitted, the lane has left the ballots, and the notices stand in their order. That is all when no switch is pending. A
pending switch is carried out as the last step of the entry: its record is active, the agreed image and the drives are its
fallback image, counts and flags are clear, no ballot is left, lanes it does not enrol are ABSENT, every strike count is 0,
and the part stays in SAFE_HOLD whatever the count. A drive that changes at the entry and again at the switch starts its
settle each time (stated of the lease; a LEAVE drops the lane's vetoes first). -/
def Obligations.LostQuorumEntersSafeHold : Prop :=
  ∀ (s : State) (l : Lane) (e : Option Evaluation), s.device = .running → s.laneState l = .voting →
    s.votingCount ≤ s.config.quorum → s.vote.openRound ≠ .none →
    let suspect : LaneRecord := { s.lanes.row l with
      state := .suspect, lease := none, grace := some s.config.grace, returnPending := false }
    let absentOf := fun r : LaneRecord => { r with
      state := LaneState.absent, lease := none, grace := none, returnPending := false, rejoinRequested := false }
    let left := s.ballots.map (fun x => { x with supporters := x.supporters.erase l })
    let still := left.filter (fun x => decide (x.supporters ≠ 0))
    let unsupported := left.filter (fun x => decide (x.supporters = 0))
    let admissions := (List.finRange 4).filterMap (fun m =>
      if s.laneState m = .candidate then some (NoticeBody.memberChange m .candidate .voting .admitted)
      else if s.readyForAdmission m = true then some (.memberChange m .suspect .voting .returned) else none)
    let held := fun c : Channel => if s.channelType c = .unused then Drive.mk .unused 0
      else ⟨s.channelType c, s.fallback c⟩
    let enters := fun (t : State) (gone : LaneRecord) (cause : MemberCause) (readers : NoticeUnit)
        (vetoes : Table 4 ChannelSet) =>
      let entered := fun m : Lane => if m = l then gone
        else if s.readyForAdmission m = true then { s.lanes.row m with state := .voting, returnPending := false }
        else s.lanes.row m
      let noted := posted s.vote.nextRound (posted s.vote.lastEnded readers (.memberChange l .voting gone.state cause
          :: unsupported.map (fun x => .ballotEnded x.slot x.action .abandoned x.supporters)))
        (.stateChange .running .safeHold .quorumLost :: admissions)
      OutsideKept s t ∧ t.staging = s.staging ∧ t.device = .safeHold ∧ t.lockoutRecord = s.lockoutRecord ∧
      t.pendingRecord = none ∧ t.vote.openRound = .none ∧ t.vote.deadline = none ∧
      t.vote.nextRound = s.vote.nextRound + 1 ∧ t.vote.proposers = 0 ∧
      (∀ m c, (t.vote.proposals.row m).row c = none) ∧
      (∀ c, (t.channelOutput c).readback = (s.channelOutput c).readback) ∧
      (s.pendingRecord = none →
        t.active = s.active ∧ t.ballots = still ∧ t.output.vetoes = vetoes ∧ t.failn = s.failn ∧
        t.notices = noted ∧ (∀ m, t.lanes.row m = entered m) ∧
        ∀ c, t.vote.channels.row c = { s.vote.channels.row c with agreed := s.fallback c } ∧
          t.fault c = s.fault c ∧ (t.channelOutput c).drive = held c) ∧
      ∀ p, s.pendingRecord = some p →
        let new := decodeConfig p.image
        let stays := fun m : Lane => (entered m).state = .absent ∨ new.enrolled.has m = true
        t.active = some ⟨new, p.digest⟩ ∧ t.ballots = [] ∧ (t.failn = true ↔ ∃ c, t.fault c = .unsafeState) ∧
        (∀ c, t.vote.channels.row c = ⟨(new.entries.row c).fallback, 0, false, false⟩ ∧
          t.fault c = (if (new.entries.row c).type = s.channelType c then s.fault c else .none) ∧
          (t.channelOutput c).drive = (if (new.entries.row c).type = .unused then ⟨.unused, 0⟩
            else ⟨(new.entries.row c).type, (new.entries.row c).fallback⟩)) ∧
        (∀ m, (stays m → s.laneState m ≠ .linked → t.lanes.row m = { entered m with strikes := 0 } ∧
            ∀ c, (t.output.vetoes.row m).has c
              = ((vetoes.row m).has c && decide ((new.entries.row c).type ≠ .unused))) ∧
          (¬ stays m → t.lanes.row m = { absentOf (entered m) with strikes := 0 } ∧ t.output.vetoes.row m = 0 ∧
            t.notices.readers.row m = none)) ∧
        ((∀ m, stays m ∧ s.laneState m ≠ .linked) → t.notices = posted s.vote.nextRound noted
          (.configSwitched (s.active.map ActiveConfig.digest) p.digest
            :: still.map (fun x => .ballotEnded x.slot x.action .discarded x.supporters)))
    (s.timer (.lease l) = some 0 →
      ∃ t, exec (.leaseExpiry l e) s = .next t ∧
        enters t suspect .leaseExpired s.notices s.output.vetoes ∧
        ∀ c, let o := s.channelOutput c
          let settle := settleAfter o.drive o.settle (held c) (s.entry c).settleTime
          (t.channelOutput c).settle = (if s.pendingRecord = none then settle
            else settleAfter (held c) settle (t.channelOutput c).drive (t.entry c).settleTime)) ∧
    ∀ q, Takes s l q [] →
      ∃ t, exec (.leave l q [] e) s = .next t ∧ Answered s t l 0x02#8 q .accepted [] false ∧
        enters t (absentOf (s.lanes.row l)) .left (s.notices.leaveReader l) (s.output.vetoes.put l 0)

/-! ## The round -/

/-- The refusals of a PROPOSE, in their order, each leaving the round as it was; the renewal it carries is taken all the
same. A bad entry names a channel above 63, UNUSED, or named before, or a value outside the domain of its type; the first
one is reported. -/
def Obligations.ProposeRefusals : Prop :=
  ∀ (s : State) (l : Lane) (q : Byte) (p : List Byte) (round : BitVec 16) (entries : List (Nat × Nat))
    (e : Option Evaluation), Takes s l q p → parsePropose p = some (round, entries) →
    let bad := fun j => ∃ n v, entries[j]? = some (n, v) ∧
      (63 < n ∨ (∃ k w, k < j ∧ entries[k]? = some (n, w)) ∨
        ∃ c : Channel, c.val = n ∧ (s.channelType c = .unused ∨ (s.channelType c = .discrete ∧ 1 < v) ∨
          (s.channelType c = .level ∧ 1000 < v)))
    ∃ t, exec (.propose l q p e) s = .next t ∧ OutsideKept s t ∧ t.staging = s.staging ∧
      (s.device = .lockout → t.toBlocks = s.toBlocks ∧ Answered s t l 0x04#8 q .lockout [] false) ∧
      (s.device ≠ .lockout → s.laneState l = .suspect →
        t.toBlocks = s.toBlocks.renew l ∧ Answered s t l 0x04#8 q .rejoining [] false) ∧
      (s.device ≠ .lockout → s.laneState l ≠ .suspect → s.laneState l ≠ .voting →
        t.toBlocks = s.toBlocks.renew l ∧ Answered s t l 0x04#8 q .notVoting [] false) ∧
      (s.device ≠ .lockout → s.device ≠ .running → s.laneState l = .voting →
        t.toBlocks = s.toBlocks.renew l ∧ Answered s t l 0x04#8 q .notRunning [] false) ∧
      (s.device = .running → s.laneState l = .voting →
        (round + 1 = s.vote.nextRound →
          t.toBlocks = s.toBlocks.renew l ∧
          Answered s t l 0x04#8 q .late (bytes16 s.vote.nextRound.toNat) false) ∧
        (round ≠ s.vote.nextRound → round + 1 ≠ s.vote.nextRound →
          t.toBlocks = s.toBlocks.renew l ∧
          Answered s t l 0x04#8 q .round (bytes16 s.vote.nextRound.toNat) false) ∧
        (round = s.vote.nextRound → s.vote.proposers.has l = true →
          t.toBlocks = s.toBlocks.renew l ∧ Answered s t l 0x04#8 q .alreadyProposed [] false) ∧
        (round = s.vote.nextRound → s.vote.proposers.has l = false → ∀ i, bad i → (∀ j, j < i → ¬ bad j) →
          t.toBlocks = s.toBlocks.renew l ∧ Answered s t l 0x04#8 q .badEntry [byte i] false))

/-- An accepted proposal that does not complete the round: the listed values stored, the lane a proposer, the round
collecting with its deadline started by the first proposal, the lease renewed, nothing else changed. -/
def Obligations.ProposalIsStored : Prop :=
  ∀ (s : State) (l m : Lane) (q : Byte) (p : List Byte) (entries : List (Nat × Nat)) (e : Option Evaluation),
    Takes s l q p → parsePropose p = some (s.vote.nextRound, entries) →
    s.device = .running → s.laneState l = .voting → s.vote.proposers.has l = false →
    s.vote.openRound ≠ .none → m ≠ l → s.laneState m = .voting → s.vote.proposers.has m = false →
    (∀ n v, (n, v) ∈ entries → ∃ c : Channel, c.val = n ∧
      ((s.channelType c = .discrete ∧ v ≤ 1) ∨ (s.channelType c = .level ∧ v ≤ 1000))) →
    (entries.map Prod.fst).Nodup →
    ∃ t, exec (.propose l q p e) s = .next t ∧ OutsideKept s t ∧ t.staging = s.staging ∧
      Answered s t l 0x04#8 q .accepted (bytes16 s.vote.nextRound.toNat) false ∧
      (∀ c : Channel, ∀ v, (t.vote.proposals.row l).row c = some v ↔ (c.val, v) ∈ entries) ∧
      (∀ k, k ≠ l → t.vote.proposals.row k = s.vote.proposals.row k) ∧
      (∀ k, t.vote.proposers.has k = (s.vote.proposers.has k || decide (k = l))) ∧
      t.vote.openRound = .collecting ∧
      t.vote.deadline = (if s.vote.openRound = .idle then some s.config.deadline else s.vote.deadline) ∧
      t.vote.nextRound = s.vote.nextRound ∧ t.vote.channels = s.vote.channels ∧
      t.lanes = s.lanes.put l { s.lanes.row l with lease := some s.config.lease } ∧
      t.output = s.output ∧ t.ballots = s.ballots ∧ t.notices = s.notices ∧ t.device = s.device ∧
      t.active = s.active ∧ t.pendingRecord = s.pendingRecord ∧ t.failn = s.failn ∧
      t.lockoutRecord = s.lockoutRecord

/-- The deadline of a collecting round expires and both evaluators agree, no lane being excluded or admitted and no switch
pending: the result is committed, every dissenting proposer gains a strike and every other loses one, the next round
opens in OPEN_IDLE with the number advanced, and the round notices are posted in their order. The second evaluator is an
operand (log 5). -/
def Obligations.DeadlineCommitsTheRound : Prop :=
  ∀ s : State, s.timer .deadline = some 0 → s.device = .running →
    s.config.quorum ≤ s.votingCount → s.pendingRecord = none → (∀ l, s.readyForAdmission l = false) →
    (∀ l, s.laneState l = .voting → (s.lanes.row l).strikes + 1 < s.config.strikeThreshold) →
    ∃ t, exec (.roundDeadlineExpiry none) s = .next t ∧ OutsideKept s t ∧ t.staging = s.staging ∧
      t.device = .running ∧ t.active = s.active ∧ t.ballots = s.ballots ∧
      t.vote.nextRound = s.vote.nextRound + 1 ∧ t.vote.openRound = .idle ∧ t.vote.deadline = none ∧
      t.vote.proposers = 0 ∧ (∀ m c, (t.vote.proposals.row m).row c = none) ∧
      (∀ c, s.channelType c ≠ .unused → t.vote.channels.row c =
        ⟨resolvedValue s.config.groups s.agreed s.candidate c, s.newHold c, s.newStale c,
          decide (withholdingGroups s.config.groups s.agreed s.candidate c ≠ 0)⟩) ∧
      (∀ c, s.channelType c = .unused → (t.vote.channels.row c).agreed = s.agreed c) ∧
      (∀ l, t.lanes.row l = { s.lanes.row l with
        strikes := if s.vote.proposers.has l = true ∧ s.laneState l = .voting then
            (if ∃ c, (s.dissentOn c).has l = true then (s.lanes.row l).strikes + 1
             else (s.lanes.row l).strikes - 1)
          else (s.lanes.row l).strikes }) ∧
      t.notices = posted s.vote.nextRound s.notices (closeNotices s.toBlocks)

/-- What follows the commit of a close at which no switch is pending: every lane whose strike count reaches the threshold
goes EXCLUDED with its vetoes dropped and its support withdrawn, then every ready lane goes VOTING; then the VOTING count
is compared with Q. At least Q: RUNNING, with the next round in OPEN_IDLE. Fewer: SAFE_HOLD, that round discarded too,
with its number, and the agreed image at fallback. The notices follow those of the round (stated where no ballot is
open, as a withdrawn support may end one). -/
def Obligations.CloseExcludesAndAdmits : Prop :=
  ∀ s : State, s.timer .deadline = some 0 → s.device = .running → s.pendingRecord = none →
    let remain := fun l : Lane => decide ((s.laneState l = .voting ∧ ¬ StruckOut s.toBlocks l) ∨
      s.readyForAdmission l = true)
    let count := (List.finRange 4).countP remain
    let changes : List NoticeBody := closeNotices s.toBlocks
      ++ (List.finRange 4).filterMap (fun l =>
          if StruckOut s.toBlocks l then some (.memberChange l .voting .excluded .strikes) else none)
      ++ (List.finRange 4).filterMap (fun l =>
          if s.laneState l = .candidate then some (.memberChange l .candidate .voting .admitted)
          else if s.readyForAdmission l = true then some (.memberChange l .suspect .voting .returned) else none)
    ∃ t, exec (.roundDeadlineExpiry none) s = .next t ∧ OutsideKept s t ∧ t.staging = s.staging ∧
      t.active = s.active ∧ t.pendingRecord = none ∧ t.lockoutRecord = s.lockoutRecord ∧
      (∀ l, (StruckOut s.toBlocks l →
          t.lanes.row l = { s.lanes.row l with
            state := .excluded, strikes := strikesAfter s.toBlocks l, lease := none, grace := none
            returnPending := false } ∧
          t.output.vetoes.row l = 0 ∧ ∀ x ∈ t.ballots, x.supporters.has l = false) ∧
        (s.readyForAdmission l = true →
          t.lanes.row l = { s.lanes.row l with state := .voting, returnPending := false }) ∧
        (¬ StruckOut s.toBlocks l → s.readyForAdmission l = false →
          t.lanes.row l = { s.lanes.row l with strikes := strikesAfter s.toBlocks l }) ∧
        (¬ StruckOut s.toBlocks l → t.output.vetoes.row l = s.output.vetoes.row l)) ∧
      (s.config.quorum ≤ count →
        t.device = .running ∧ t.vote.openRound = .idle ∧ t.vote.nextRound = s.vote.nextRound + 1 ∧
        (s.ballots = [] → t.notices = posted s.vote.nextRound s.notices changes)) ∧
      (count < s.config.quorum →
        t.device = .safeHold ∧ t.vote.openRound = .none ∧ t.vote.nextRound = s.vote.nextRound + 1 + 1 ∧
        (∀ c, t.agreed c = s.fallback c) ∧
        (s.ballots = [] → t.notices = (posted s.vote.nextRound s.notices changes).post (s.vote.nextRound + 1)
          (.stateChange .running .safeHold .quorumLost)))

/-- A pending switch at a close in RUNNING, no lane being excluded or admitted: the round is committed under the old
configuration, then the pending record is active, the agreed image is its fallback image, counts and flags are clear, no
ballot is left, lanes it does not enrol are ABSENT, every strike count is 0, and the drives are its fallback values. The
VOTING count is compared with the new Q: RUNNING goes on with the round opened at the close, or SAFE_HOLD discards it. -/
def Obligations.PendingSwitchAtClose : Prop :=
  ∀ (s : State) (a : ActiveConfig) (p : PendingRecord), s.timer .deadline = some 0 → s.device = .running →
    s.active = some a → s.pendingRecord = some p → s.config.quorum ≤ s.votingCount →
    (∀ l, s.readyForAdmission l = false ∧ s.laneState l ≠ .linked) →
    (∀ l, s.laneState l = .voting → (s.lanes.row l).strikes + 1 < s.config.strikeThreshold) →
    let new := decodeConfig p.image
    let stays := fun l : Lane => s.laneState l = .absent ∨ new.enrolled.has l = true
    let count := (List.finRange 4).countP (fun l => decide (s.laneState l = .voting ∧ new.enrolled.has l = true))
    let changes : List NoticeBody := closeNotices s.toBlocks ++ [.configSwitched (some a.digest) p.digest]
      ++ s.ballots.map (fun x => .ballotEnded x.slot x.action .discarded x.supporters)
    ∃ t, exec (.roundDeadlineExpiry none) s = .next t ∧ OutsideKept s t ∧ t.staging = s.staging ∧
      t.active = some ⟨new, p.digest⟩ ∧ t.pendingRecord = none ∧ t.ballots = [] ∧
      t.lockoutRecord = s.lockoutRecord ∧
      (∀ c, t.vote.channels.row c = ⟨(new.entries.row c).fallback, 0, false, false⟩) ∧
      t.vote.proposers = 0 ∧ (∀ m c, (t.vote.proposals.row m).row c = none) ∧ t.vote.deadline = none ∧
      (∀ l, (stays l → t.lanes.row l = { s.lanes.row l with strikes := 0 } ∧
          ∀ c, (t.output.vetoes.row l).has c
            = ((s.output.vetoes.row l).has c && decide ((new.entries.row c).type ≠ .unused))) ∧
        (¬ stays l → t.laneState l = .absent ∧ (t.lanes.row l).strikes = 0 ∧ (t.lanes.row l).lease = none ∧
          (t.lanes.row l).grace = none ∧ t.output.vetoes.row l = 0 ∧ t.notices.readers.row l = none)) ∧
      (∀ c, t.fault c = (if (new.entries.row c).type = s.channelType c then s.fault c else .none) ∧
        (t.channelOutput c).drive = (if (new.entries.row c).type = .unused then ⟨.unused, 0⟩
          else ⟨(new.entries.row c).type, (new.entries.row c).fallback⟩)) ∧
      (t.failn = true ↔ ∃ c, t.fault c = .unsafeState) ∧
      (new.quorum ≤ count →
        t.device = .running ∧ t.vote.openRound = .idle ∧ t.vote.nextRound = s.vote.nextRound + 1 ∧
        ((∀ l, stays l) → t.notices = posted s.vote.nextRound s.notices changes)) ∧
      (count < new.quorum →
        t.device = .safeHold ∧ t.vote.openRound = .none ∧ t.vote.nextRound = s.vote.nextRound + 1 + 1 ∧
        ((∀ l, stays l) → t.notices = (posted s.vote.nextRound s.notices changes).post (s.vote.nextRound + 1)
          (.stateChange .running .safeHold .quorumLost)))

/-- A round closes by completeness at the PROPOSE that brings the last VOTING lane into the proposer set, and when the one
VOTING lane that has not proposed leaves VOTING, by LEAVE or by its lease, with at least Q left. The close is that of the
deadline's expiry: at a PROPOSE, on the state with the proposal stored, its renewal following; at a lane that leaves, on
the state in which that lane has left. The PROPOSE is answered ACCEPTED whatever the close brings. -/
def Obligations.RoundClosesByCompleteness : Prop :=
  (∀ (s : State) (l : Lane) (q : Byte) (p : List Byte) (entries : List (Nat × Nat)) (e : Option Evaluation),
    Takes s l q p → parsePropose p = some (s.vote.nextRound, entries) →
    s.device = .running → s.laneState l = .voting → s.vote.proposers.has l = false →
    s.vote.openRound ≠ .none → (∀ m, m ≠ l → s.laneState m = .voting → s.vote.proposers.has m = true) →
    (∀ n v, (n, v) ∈ entries → ∃ c : Channel, c.val = n ∧
      ((s.channelType c = .discrete ∧ v ≤ 1) ∨ (s.channelType c = .level ∧ v ≤ 1000))) →
    (entries.map Prod.fst).Nodup →
    ∃ t u stored, exec (.propose l q p e) s = .next t ∧ OutsideKept s t ∧ t.staging = s.staging ∧
      Answered s t l 0x04#8 q .accepted (bytes16 s.vote.nextRound.toNat) false ∧
      stored = { s with vote := { s.vote with
        proposals := s.vote.proposals.put l (stored.vote.proposals.row l)
        proposers := s.vote.proposers.insert l, openRound := .collecting, deadline := some 0 } } ∧
      (∀ c : Channel, ∀ v, (stored.vote.proposals.row l).row c = some v ↔ (c.val, v) ∈ entries) ∧
      exec (.roundDeadlineExpiry e) stored = .next u ∧ t.toBlocks = u.toBlocks.renew l) ∧
  ∀ (s : State) (l : Lane) (e : Option Evaluation), s.device = .running → s.laneState l = .voting →
    s.vote.openRound = .collecting → s.config.quorum < s.votingCount →
    (∀ m, m ≠ l → s.laneState m = .voting → s.vote.proposers.has m = true) →
    let still := { s with vote := { s.vote with openRound := .idle } }
    let collecting := fun v : State => { v with vote := { v.vote with openRound := .collecting, deadline := some 0 } }
    (∀ q, Takes s l q [] → ∃ t u v, exec (.leave l q [] e) s = .next t ∧ OutsideKept s t ∧
      t.staging = s.staging ∧ Answered s t l 0x02#8 q .accepted [] false ∧
      exec (.leave l q [] e) still = .next v ∧ v.laneState l = .absent ∧
      exec (.roundDeadlineExpiry e) (collecting v) = .next u ∧ t.toBlocks = u.toBlocks) ∧
    (s.timer (.lease l) = some 0 → ∃ t u v, exec (.leaseExpiry l e) s = .next t ∧ OutsideKept s t ∧
      t.staging = s.staging ∧ exec (.leaseExpiry l e) still = .next v ∧ v.laneState l = .suspect ∧
      exec (.roundDeadlineExpiry e) (collecting v) = .next u ∧ t.toBlocks = u.toBlocks)

/-- LOCKOUT is entered by a re-check that fails (cause STORE_CHECK) and by a close at which the two evaluators differ
(cause EVALUATOR_MISMATCH; the second evaluator is an operand, log 5): the record; nothing of the round committed, its
number and its proposals kept; the lane records frozen; the pending record and the ballots discarded after STATE_CHANGE;
every drive at fallback; FAILN asserted. A re-check that agrees, one in LOCKOUT and one in reset change nothing. The
failed record keeps its contents (log 6). Two more of the model's choices are proved with it: the rows of proposers that
are no longer VOTING are kept at a mismatch (log 27), and evaluators that differ in a withholding-group set alone differ
(log 28). -/
def Obligations.FailuresEnterLockout : Prop :=
  ∀ s : State,
    let enters := fun (t : State) (cause : LockoutCause) (noticed : StateCause) =>
      OutsideKept s t ∧ t.staging = s.staging ∧
      t.device = .lockout ∧ t.lockoutRecord = some ⟨cause, s.vote.nextRound, s.device⟩ ∧
      t.vote = { s.vote with openRound := .none, deadline := none } ∧ t.lanes = s.lanes ∧ t.ballots = [] ∧
      t.pendingRecord = none ∧ t.active = s.active ∧ t.failn = true ∧ t.output.vetoes = s.output.vetoes ∧
      (∀ c, t.fault c = s.fault c ∧ (t.channelOutput c).drive
        = (if s.channelType c = .unused then ⟨.unused, 0⟩ else ⟨s.channelType c, s.fallback c⟩)) ∧
      t.notices = posted s.vote.lastEnded s.notices (.stateChange s.device .lockout noticed
        :: s.ballots.map (fun x => .ballotEnded x.slot x.action .discarded x.supporters))
    (∀ r, exec (.scrubRecheck r true) s = .next s ∧
      (s.device = .lockout ∨ s.inReset = true → exec (.scrubRecheck r false) s = .next s) ∧
      (s.device ≠ .lockout → s.inReset = false →
        ∃ t, exec (.scrubRecheck r false) s = .next t ∧ enters t .storeCheck .storeCheck)) ∧
    ∀ e, s.timer .deadline = some 0 → e ≠ s.evaluate →
      ∃ t, exec (.roundDeadlineExpiry (some e)) s = .next t ∧ enters t .evaluatorMismatch .evaluatorMismatch

/-- A DISCRETE channel is judged by counting its present values. -/
def Obligations.DiscreteJudgedByCounting : Prop :=
  ∀ (b : Blocks) (c : Channel), b.channelType c = .discrete →
    let values := (b.presentValues c).map Prod.snd
    (b.config.quorum ≤ values.count 1 → b.outcomeOf c = .agreed 1) ∧
    (values.count 1 < b.config.quorum → b.config.quorum ≤ values.count 0 → b.outcomeOf c = .agreed 0) ∧
    (values.count 1 < b.config.quorum → values.count 0 < b.config.quorum → b.outcomeOf c = .noQuorum) ∧
    (values.length < b.config.quorum → b.outcomeOf c = .noQuorum) ∧
    (IndexSet.size b.config.enrolled < 2 * b.config.quorum →
      (∀ l, b.laneState l = .voting → b.config.enrolled.has l = true) →
      ¬ (b.config.quorum ≤ values.count 1 ∧ b.config.quorum ≤ values.count 0))

/-- A LEVEL channel is judged from its median: a present value with at most half the values below it and at least half not
above it (of an even count, the lower of the two in the middle), and the values within the tolerance of it. -/
def Obligations.LevelJudgedByMedian : Prop :=
  ∀ (b : Blocks) (c : Channel), b.channelType c = .level →
    let values := (b.presentValues c).map Prod.snd
    (values = [] → b.outcomeOf c = .noQuorum) ∧
    (values ≠ [] → ∃ m, m ∈ values ∧
      values.countP (fun v => decide (v < m)) ≤ (values.length - 1) / 2 ∧
      (values.length - 1) / 2 < values.countP (fun v => decide (v ≤ m)) ∧
      b.outcomeOf c =
        if b.config.quorum ≤ values.countP (fun v =>
            decide (v ≤ m + (b.entry c).tolerance ∧ m ≤ v + (b.entry c).tolerance))
        then .agreed m else .noQuorum)

/-- What an outcome does to the candidate value, the hold count and the STALE flag of a configured channel. -/
def Obligations.HoldAndFallbackByOutcome : Prop :=
  ∀ (b : Blocks) (c : Channel),
    (∀ v, b.outcomeOf c = .agreed v → b.candidate c = v ∧ b.newHold c = 0 ∧ b.newStale c = false) ∧
    (b.outcomeOf c = .noQuorum → (b.vote.channels.row c).hold + 1 ≤ (b.entry c).holdRounds →
      b.newHold c = (b.vote.channels.row c).hold + 1 ∧ b.candidate c = b.agreed c ∧
      b.newStale c = (b.vote.channels.row c).stale) ∧
    (b.outcomeOf c = .noQuorum → (b.entry c).holdRounds ≤ (b.vote.channels.row c).hold →
      b.newHold c = (b.entry c).holdRounds + 1 ∧ b.candidate c = b.fallback c ∧ b.newStale c = true)

/-- A lane dissents on a channel exactly when the channel is AGREED and its present value disagrees: differs, for DISCRETE;
lies farther from the median than the tolerance, for LEVEL. The present values of a channel are those in its slots of the
rows of the lanes that are VOTING and in the proposer set, one from each lane at most. -/
def Obligations.DissentByOutcome : Prop :=
  ∀ (b : Blocks) (c : Channel),
    (∀ l, (b.dissentOn c).has l = true ↔
      ∃ v w, b.outcomeOf c = .agreed v ∧ (l, w) ∈ b.presentValues c ∧
        ((b.channelType c = .discrete ∧ w ≠ v) ∨
         (b.channelType c = .level ∧ (v + (b.entry c).tolerance < w ∨ w + (b.entry c).tolerance < v)))) ∧
    (∀ l w, (l, w) ∈ b.presentValues c ↔
      (b.vote.proposers.has l = true ∧ b.laneState l = .voting ∧ (b.vote.proposals.row l).row c = some w)) ∧
    ((b.presentValues c).map Prod.fst).Nodup

/-- A group with two or more rising members withholds every one but the member ON in the previous agreed image; a
channel's withholding set has each group that withholds it, and its resolved value is the previous agreed value when one
does, the candidate value when none does. -/
def Obligations.GroupWithholdsAllButTheHolder : Prop :=
  ∀ (previous candidates : Channel → Nat) (c : Channel),
    (∀ members : List Channel, members.Nodup →
      (∀ x ∈ members, ∀ y ∈ members, previous x = 1 → previous y = 1 → x = y) →
      let risers := members.filter (fun x => decide (candidates x = 1))
      (risers.length ≤ 1 → groupWithholds previous candidates members c = false) ∧
      (2 ≤ risers.length →
        (groupWithholds previous candidates members c = true ↔
          c ∈ members ∧ candidates c = 1 ∧ previous c ≠ 1))) ∧
    ∀ groups : Table 12 (List Channel),
      (∀ g, (withholdingGroups groups previous candidates c).has g
        = groupWithholds previous candidates (groups.row g) c) ∧
      resolvedValue groups previous candidates c
        = (if ∃ g, groupWithholds previous candidates (groups.row g) c = true then previous c else candidates c)

/-! ## Vetoes, readback and channel faults -/

/-- VETO. Its refusals in their order, each changing nothing: LOCKOUT, NOT_CONFIGURED, NOT_VOTING, BAD_ENTRY with the
index of the first entry that names a channel above 63, UNUSED, or named before. Accepted: every SET entry is in the
lane's veto set, every CLEAR entry is out of it, the rest as before; the drives follow; a channel whose drive changes
starts its settle with its settle time, any other keeps its settle timer, and the mismatch timers follow; the response
carries the veto count; nothing else changes. -/
def Obligations.VetoIsApplied : Prop :=
  ∀ (s : State) (l : Lane) (q : Byte) (p : List Byte) (entries : List (Nat × Bool)), Takes s l q p →
    parseVeto p = some entries →
    let refused := fun o payload => ∃ t, exec (.veto l q p) s = .next t ∧ OnlyPorts s t ∧
      Answered s t l 0x05#8 q o payload false
    let may := s.device ≠ .lockout ∧ s.device ≠ .unconfigured ∧ s.laneState l ≠ .absent ∧
      s.laneState l ≠ .excluded
    let bad := fun j => ∃ n a, entries[j]? = some (n, a) ∧
      (63 < n ∨ (∃ k b, k < j ∧ entries[k]? = some (n, b)) ∨
        ∃ c : Channel, c.val = n ∧ s.channelType c = .unused)
    (s.device = .lockout → refused .lockout []) ∧
    (s.device = .unconfigured → refused .notConfigured []) ∧
    (s.device ≠ .lockout → s.device ≠ .unconfigured → s.laneState l = .absent ∨ s.laneState l = .excluded →
      refused .notVoting []) ∧
    (may → ∀ i, bad i → (∀ j, j < i → ¬ bad j) → refused .badEntry [byte i]) ∧
    (may → (∀ i, ¬ bad i) →
      ∃ t, exec (.veto l q p) s = .next t ∧ OutsideKept s t ∧ t.staging = s.staging ∧
        Answered s t l 0x05#8 q .accepted [byte (IndexSet.size (t.output.vetoes.row l))] false ∧
        (∀ c : Channel, (t.output.vetoes.row l).has c =
          (decide ((c.val, true) ∈ entries) ||
            ((s.output.vetoes.row l).has c && decide ((c.val, false) ∉ entries)))) ∧
        (∀ m, m ≠ l → t.output.vetoes.row m = s.output.vetoes.row m) ∧
        t.toBlocks = { s.toBlocks with output := t.output } ∧
        ∀ c, t.fault c = s.fault c ∧ (t.channelOutput c).readback = (s.channelOutput c).readback ∧
          (t.channelOutput c).drive =
            (if s.channelType c = .unused then ⟨.unused, 0⟩
             else if s.device = .running ∧ s.fault c = .none ∧ ∀ m, (t.output.vetoes.row m).has c = false
             then ⟨s.channelType c, s.agreed c⟩ else ⟨s.channelType c, s.fallback c⟩) ∧
          (t.channelOutput c).settle = settleAfter (s.channelOutput c).drive (s.channelOutput c).settle
            (t.channelOutput c).drive (s.entry c).settleTime ∧
          MismatchFollows t c (s.channelOutput c).mismatch)

/-- A change of a channel's readback level: the level is the new one, the mismatch timer starts, goes on or stops by the
conditions of 08 R137, and nothing else changes. -/
def Obligations.ReadbackChangeSupervises : Prop :=
  ∀ (s : State) (c : Channel) (level : ReadbackLevel), s.inReset = false →
    (s.channelOutput c).readback ≠ level →
    let o := s.channelOutput c
    let disagrees := (o.drive.energized = true ∧ level = .deEnergized) ∨
      (o.drive.energized = false ∧ level = .energized)
    let runs := s.channelType c ≠ .unused ∧ (s.entry c).readbackChecked = true ∧ o.fault ≠ .unsafeState ∧
      o.settle = none ∧ disagrees
    ∃ t, exec (.readbackLevelChange c level) s = .next t ∧ OutsideKept s t ∧ t.staging = s.staging ∧
      t.ports = s.ports ∧
      t.toBlocks = s.toBlocks.setChannelOutput c
        { o with readback := level, mismatch := (t.channelOutput c).mismatch } ∧
      (runs → (t.channelOutput c).mismatch =
        (if o.mismatch = none then some (s.entry c).settleTime else o.mismatch)) ∧
      (¬ runs → (t.channelOutput c).mismatch = none)

/-- A settle timer expires. Of a supervised channel that is not UNSAFE and whose readback disagrees: from NONE it goes
FAULTED and is driven to fallback with READBACK_FAULT posted, from FAULTED it goes UNSAFE with CHANNEL_UNSAFE posted and
FAILN asserted. Of any other channel the timer only stops. A mismatch timer expires: the channel fails in the same way,
and in UNSAFE nothing comes of it. A failure that changes the drive starts a settle with the channel's settle time; one
from NONE that leaves drive and disagreement standing starts the mismatch timer within the event. -/
def Obligations.SettleAndMismatchExpiries : Prop :=
  ∀ (s : State) (c : Channel),
    let o := s.channelOutput c
    let kept := fun t : State => OutsideKept s t ∧ t.staging = s.staging ∧
      t.vote = s.vote ∧ t.lanes = s.lanes ∧ t.ballots = s.ballots ∧ t.device = s.device ∧ t.active = s.active ∧
      t.output.vetoes = s.output.vetoes ∧ (∀ d, d ≠ c → t.channelOutput d = s.channelOutput d) ∧
      (t.channelOutput c).readback = o.readback
    let failed := fun (t : State) (settle mismatch : Timer) =>
      (o.fault = .none → t.fault c = .faulted ∧ t.failn = s.failn ∧
        (t.channelOutput c).drive = ⟨s.channelType c, s.fallback c⟩ ∧
        (t.channelOutput c).settle
          = settleAfter o.drive settle ⟨s.channelType c, s.fallback c⟩ (s.entry c).settleTime ∧
        MismatchFollows t c mismatch ∧
        t.notices = s.notices.post s.vote.lastEnded (.readbackFault c o.drive o.readback)) ∧
      (o.fault = .faulted → t.fault c = .unsafeState ∧ t.failn = true ∧ (t.channelOutput c).mismatch = none ∧
        (t.channelOutput c).drive = ⟨s.channelType c, s.fallback c⟩ ∧
        (t.channelOutput c).settle
          = settleAfter o.drive settle ⟨s.channelType c, s.fallback c⟩ (s.entry c).settleTime ∧
        t.notices = s.notices.post s.vote.lastEnded (.channelUnsafe c o.drive o.readback))
    let fails := s.channelType c ≠ .unused ∧ (s.entry c).readbackChecked = true ∧
      ((o.drive.energized = true ∧ o.readback = .deEnergized) ∨
        (o.drive.energized = false ∧ o.readback = .energized))
    (s.timer (.settle c) = some 0 →
      ∃ t, exec (.settleExpiry c) s = .next t ∧ kept t ∧ (fails → failed t none o.mismatch) ∧
        (¬ fails ∨ o.fault = .unsafeState → t.fault c = o.fault ∧ t.failn = s.failn ∧
          (t.channelOutput c).settle = none ∧ (t.channelOutput c).drive = o.drive ∧
          (t.channelOutput c).mismatch = none ∧ t.notices = s.notices)) ∧
    (s.timer (.mismatch c) = some 0 → s.channelType c ≠ .unused →
      ∃ t, exec (.mismatchTimerExpiry c) s = .next t ∧ kept t ∧ failed t o.settle none ∧
        (o.fault = .unsafeState → t.fault c = o.fault ∧ t.failn = s.failn ∧ (t.channelOutput c).drive = o.drive ∧
          (t.channelOutput c).settle = o.settle ∧ (t.channelOutput c).mismatch = none ∧ t.notices = s.notices))

/-! ## Ballots -/

/-- The refusals of a SUPPORT, in their order, each changing nothing. -/
def Obligations.SupportRefusals : Prop :=
  ∀ (s : State) (l : Lane) (q : Byte) (p : List Byte) (action : BallotAction), Takes s l q p →
    parseSupport p = some action →
    let may := (s.device = .unconfigured ∧ s.laneState l = .linked) ∨
      (s.device ≠ .unconfigured ∧ s.laneState l = .voting)
    let refused := fun o => ∃ t, exec (.support l q p) s = .next t ∧ OnlyPorts s t ∧
      Answered s t l 0x06#8 q o [] false
    (s.device = .lockout → refused .lockout) ∧
    (s.device ≠ .lockout → ¬ may → refused .notVoting) ∧
    (s.device ≠ .lockout → may →
      (∀ c, action = .clearFault c → s.fault c = .none → refused .notApplicable) ∧
      (∀ m, action = .readmit m → s.laneState m ≠ .excluded → refused .notApplicable) ∧
      (action = .resume → s.device ≠ .safeHold → refused .notApplicable) ∧
      (∀ d, action = .commitConfig d →
        let holds := (s.staging.row l).state = .sealed ∧ (s.staging.row l).digest = some d
        (s.pendingRecord ≠ none → refused .switchPending) ∧
        (s.pendingRecord = none → ¬ holds → refused .stagingMismatch) ∧
        (s.pendingRecord = none → holds → s.device = .unconfigured →
          (Memory.read (s.staging.row l).image 0).getLsbD l.val = false → refused .notEnrolled)))

/-- A SUPPORT of an applicable action, from a LINKED lane while UNCONFIGURED or a VOTING lane otherwise: it creates a ballot
in the lowest free slot, or finds the lane already a supporter, or adds it short of the quorum needed, or is refused
BALLOT_FULL. Lifetime and quorum needed are those of the active configuration; while there is none, the lifetime is the
one in the image of the lane that creates the ballot, the quorum the one in that of the lowest-numbered supporter. -/
def Obligations.SupportBuildsTheBallot : Prop :=
  ∀ (s : State) (l : Lane) (q : Byte) (p : List Byte) (action : BallotAction), Takes s l q p →
    parseSupport p = some action →
    (s.device = .unconfigured ∧ s.laneState l = .linked) ∨
      (s.device ≠ .lockout ∧ s.device ≠ .unconfigured ∧ s.laneState l = .voting) →
    (∀ c, action = .clearFault c → s.fault c ≠ .none) →
    (∀ m, action = .readmit m → s.laneState m = .excluded) →
    (action = .resume → s.device = .safeHold) →
    (∀ d, action = .commitConfig d → s.pendingRecord = none ∧ (s.staging.row l).state = .sealed ∧
      (s.staging.row l).digest = some d ∧
      (s.device = .unconfigured → (Memory.read (s.staging.row l).image 0).getLsbD l.val = true)) →
    BallotLaw s →
    let needs := fun (supporters : LaneSet) (k : Nat) =>
      (∀ a, s.active = some a → k = a.record.quorum) ∧
      (s.active = none → ∃ m, supporters.has m = true ∧ (∀ j, j < m → supporters.has j = false) ∧
        k = imageByte (s.staging.row m).image 1)
    (∀ i : BallotSlot, (∀ x ∈ s.ballots, x.action ≠ action) → (∀ x ∈ s.ballots, x.slot ≠ i) →
      (∀ j, j < i → ∃ x ∈ s.ballots, x.slot = j) →
      ∃ t k life, exec (.support l q p) s = .next t ∧ OutsideKept s t ∧ t.staging = s.staging ∧
        needs (IndexSet.insert 0 l) k ∧ (∀ a, s.active = some a → life = a.record.ballotLifetime) ∧
        (s.active = none → life = imageWord (s.staging.row l).image 7) ∧
        Answered s t l 0x06#8 q .accepted [byte i.val, 0x01#8, 0x01#8, byte k] false ∧
        t.toBlocks = { s.toBlocks with
          ballots := s.ballots ++ [⟨i, action, IndexSet.insert 0 l, life⟩] }) ∧
    ((∀ x ∈ s.ballots, x.action ≠ action) → (∀ i, ∃ x ∈ s.ballots, x.slot = i) →
      ∃ t, exec (.support l q p) s = .next t ∧ OnlyPorts s t ∧ Answered s t l 0x06#8 q .ballotFull [] false) ∧
    ∀ x ∈ s.ballots, x.action = action →
      (x.supporters.has l = true →
        ∃ t k, exec (.support l q p) s = .next t ∧ OnlyPorts s t ∧ needs x.supporters k ∧
          Answered s t l 0x06#8 q .accepted [byte x.slot.val, 0x03#8, byte x.supporters.size, byte k] false) ∧
      ∀ k, x.supporters.has l = false → needs (x.supporters.insert l) k → x.supporters.size + 1 < k →
        ∃ t, exec (.support l q p) s = .next t ∧ OutsideKept s t ∧ t.staging = s.staging ∧
          Answered s t l 0x06#8 q .accepted
            [byte x.slot.val, 0x02#8, byte (x.supporters.size + 1), byte k] false ∧
          t.toBlocks = { s.toBlocks with
            ballots := s.ballots.map (fun y =>
              if y.slot = x.slot then { y with supporters := y.supporters.insert l } else y) }

/-- The SUPPORT that brings a CLEAR_FAULT, READMIT or RESUME ballot to Q passes it: the ballot leaves the table,
BALLOT_PASSED is posted with the whole supporter set, and the action is carried out. CLEAR_FAULT clears the fault in every
device state that has a quorum of supporters, the drive, the settle and mismatch timers and FAILN following; READMIT makes the lane CANDIDATE, which
SAFE_HOLD admits at once; RESUME enters RUNNING. -/
def Obligations.PassedBallotIsCarriedOut : Prop :=
  ∀ (s : State) (l : Lane) (q : Byte) (p : List Byte) (x : Ballot) (a : ActiveConfig), Takes s l q p →
    parseSupport p = some x.action → s.laneState l = .voting → s.active = some a → BallotLaw s →
    x ∈ s.ballots → x.supporters.has l = false → a.record.quorum ≤ x.supporters.size + 1 →
    let passed := fun t : State => exec (.support l q p) s = .next t ∧ OutsideKept s t ∧ t.staging = s.staging ∧
      Answered s t l 0x06#8 q .accepted
        [byte x.slot.val, 0x04#8, byte (x.supporters.size + 1), byte a.record.quorum] false ∧
      t.ballots = s.ballots.filter (fun y => decide (y.slot ≠ x.slot)) ∧ t.active = s.active ∧
      t.pendingRecord = s.pendingRecord ∧ t.lockoutRecord = s.lockoutRecord
    let noted := s.notices.post s.vote.lastEnded
      (.ballotPassed x.slot x.action (x.supporters.insert l))
    (∀ c, x.action = .clearFault c → s.device ≠ .unconfigured → s.device ≠ .lockout → s.fault c ≠ .none →
      ∃ t, passed t ∧ t.fault c = .none ∧ (∀ d, d ≠ c → t.channelOutput d = s.channelOutput d) ∧
        (t.channelOutput c).drive = (if s.channelType c = .unused then ⟨.unused, 0⟩
          else if s.device = .running ∧ ∀ m, (s.output.vetoes.row m).has c = false
          then ⟨s.channelType c, s.agreed c⟩ else ⟨s.channelType c, s.fallback c⟩) ∧
        (t.channelOutput c).readback = (s.channelOutput c).readback ∧
        (t.channelOutput c).settle = settleAfter (s.channelOutput c).drive (s.channelOutput c).settle
          (t.channelOutput c).drive (s.entry c).settleTime ∧
        MismatchFollows t c (s.channelOutput c).mismatch ∧
        (t.failn = true ↔ ∃ d, t.fault d = .unsafeState) ∧
        t.notices = noted.post s.vote.lastEnded (.faultCleared c (s.fault c)) ∧ t.vote = s.vote ∧
        t.lanes = s.lanes ∧ t.device = s.device ∧ t.output.vetoes = s.output.vetoes) ∧
    (∀ m, x.action = .readmit m → s.laneState m = .excluded →
      let readmitted := noted.post s.vote.lastEnded (.memberChange m .excluded .candidate .readmitted)
      (s.device = .running →
        ∃ t, passed t ∧ t.lanes = s.lanes.put m { s.lanes.row m with
            state := .candidate, strikes := 0, rejoinRequested := false, lease := some a.record.lease } ∧
          t.notices = readmitted ∧
          t.vote = s.vote ∧ t.output = s.output ∧ t.device = s.device ∧ t.failn = s.failn) ∧
      (s.device = .safeHold →
        ∃ t, passed t ∧ t.lanes = s.lanes.put m { s.lanes.row m with
            state := .voting, strikes := 0, rejoinRequested := false, lease := some a.record.lease
            returnPending := false } ∧
          t.notices = readmitted.post s.vote.lastEnded (.memberChange m .candidate .voting .admitted) ∧
          t.vote = s.vote ∧ t.output = s.output ∧ t.device = s.device ∧ t.failn = s.failn)) ∧
    (x.action = .resume → s.device = .safeHold →
      ∃ t, passed t ∧ t.device = .running ∧ t.vote.openRound = .idle ∧ t.vote.nextRound = s.vote.nextRound ∧
        t.vote.proposers = 0 ∧ t.vote.channels = s.vote.channels ∧ t.lanes = s.lanes ∧
        t.notices = noted.post s.vote.lastEnded (.stateChange .safeHold .running .resumed) ∧
        t.failn = s.failn ∧ ∀ c, t.fault c = s.fault c)

/-- The SUPPORT that brings a COMMIT_CONFIG ballot to Q: the image of the lowest-numbered supporter is copied. In RUNNING the
switch is pending and nothing else is done; in SAFE_HOLD it is made at once: the record is active, the agreed image is
its fallback image, counts and flags are clear, no ballot is left, every strike count is 0. -/
def Obligations.CommitCopiesTheImage : Prop :=
  ∀ (s : State) (l low : Lane) (q : Byte) (d : Digest) (x : Ballot) (a : ActiveConfig),
    Takes s l q (0x01#8 :: bytes32 d) → s.laneState l = .voting → s.active = some a → s.pendingRecord = none →
    BallotLaw s → x ∈ s.ballots → x.action = .commitConfig d → x.supporters.has l = false →
    a.record.quorum ≤ x.supporters.size + 1 → (s.staging.row l).state = .sealed →
    (s.staging.row l).digest = some d → (low = l ∨ x.supporters.has low = true) →
    (∀ m, m < low → m ≠ l ∧ x.supporters.has m = false) →
    let image := (s.staging.row low).image
    let passed := fun t : State => exec (.support l q (0x01#8 :: bytes32 d)) s = .next t ∧ OutsideKept s t ∧
      t.staging = s.staging ∧ Answered s t l 0x06#8 q .accepted
        [byte x.slot.val, 0x04#8, byte (x.supporters.size + 1), byte a.record.quorum] false
    (s.device = .running →
      ∃ t, passed t ∧ t.pendingRecord = some ⟨image, d⟩ ∧ t.active = s.active ∧ t.vote = s.vote ∧
        t.lanes = s.lanes ∧ t.output = s.output ∧ t.device = s.device ∧
        t.ballots = s.ballots.filter (fun y => decide (y.slot ≠ x.slot)) ∧
        t.notices = s.notices.post s.vote.lastEnded
          (.ballotPassed x.slot x.action (x.supporters.insert l))) ∧
    (s.device = .safeHold →
      ∃ t, passed t ∧ t.pendingRecord = none ∧ t.active = some ⟨decodeConfig image, d⟩ ∧ t.device = .safeHold ∧
        t.ballots = [] ∧
        (∀ c, t.vote.channels.row c = ⟨((decodeConfig image).entries.row c).fallback, 0, false, false⟩) ∧
        t.vote.nextRound = s.vote.nextRound ∧
        (∀ m, (t.lanes.row m).strikes = 0 ∧
          t.laneState m = (if (decodeConfig image).enrolled.has m = true ∧ s.laneState m ≠ .linked
            then s.laneState m else if (decodeConfig image).enrolled.has m = true then .candidate else .absent)) ∧
        ∀ c, (t.channelOutput c).drive
          = (if ((decodeConfig image).entries.row c).type = .unused then ⟨.unused, 0⟩
             else ⟨((decodeConfig image).entries.row c).type, ((decodeConfig image).entries.row c).fallback⟩))

/-- The first switch: the SUPPORT that brings a COMMIT_CONFIG ballot to the quorum of its image while UNCONFIGURED. The
image of the lowest-numbered supporter is copied and active, the agreed image and the drives are its fallback image, no
ballot is left; each LINKED lane it enrols is VOTING, with its lease started, each other lane is ABSENT; and the part is
GATHERING, or RUNNING with a round open when the VOTING lanes are at least Q. -/
def Obligations.FirstSwitchConfiguresThePart : Prop :=
  ∀ (s : State) (l low : Lane) (q : Byte) (d : Digest) (x : Ballot), Takes s l q (0x01#8 :: bytes32 d) →
    s.device = .unconfigured → MembershipLaw s → BallotLaw s → s.laneState l = .linked → s.pendingRecord = none →
    x ∈ s.ballots → x.action = .commitConfig d → x.supporters.has l = false →
    (s.staging.row l).state = .sealed → (s.staging.row l).digest = some d →
    (Memory.read (s.staging.row l).image 0).getLsbD l.val = true → (low = l ∨ x.supporters.has low = true) →
    (∀ m, m < low → m ≠ l ∧ x.supporters.has m = false) →
    let image := (s.staging.row low).image
    let new := decodeConfig image
    imageByte image 1 ≤ x.supporters.size + 1 →
    let joins := fun m : Lane => s.laneState m = .linked ∧ new.enrolled.has m = true
    let count := (List.finRange 4).countP (fun m => decide (joins m))
    let joining := (List.finRange 4).filter (fun m => decide (joins m))
    let changes : List NoticeBody := [.ballotPassed x.slot x.action (x.supporters.insert l), .configSwitched none d]
      ++ (s.ballots.filter (fun y => decide (y.slot ≠ x.slot))).map
          (fun y => .ballotEnded y.slot y.action .discarded y.supporters)
      ++ joining.map (fun m => .memberChange m .linked .candidate .configured)
      ++ [.stateChange .unconfigured .gathering .firstSwitch]
      ++ joining.map (fun m => .memberChange m .candidate .voting .admitted)
    ∃ t, exec (.support l q (0x01#8 :: bytes32 d)) s = .next t ∧ OutsideKept s t ∧ t.staging = s.staging ∧
      Answered s t l 0x06#8 q .accepted
        [byte x.slot.val, 0x04#8, byte (x.supporters.size + 1), byte (imageByte image 1)] false ∧
      t.active = some ⟨new, d⟩ ∧ t.pendingRecord = none ∧ t.ballots = [] ∧
      t.lockoutRecord = s.lockoutRecord ∧
      (∀ c, t.vote.channels.row c = ⟨(new.entries.row c).fallback, 0, false, false⟩) ∧
      t.vote.nextRound = s.vote.nextRound ∧
      (∀ c, (t.channelOutput c).drive = (if (new.entries.row c).type = .unused then ⟨.unused, 0⟩
        else ⟨(new.entries.row c).type, (new.entries.row c).fallback⟩)) ∧
      (∀ m, (t.lanes.row m).strikes = 0 ∧
        (joins m → t.laneState m = .voting ∧ (t.lanes.row m).lease = some new.lease ∧
          (t.lanes.row m).returnPending = false) ∧
        (¬ joins m → t.laneState m = .absent)) ∧
      (new.quorum ≤ count →
        t.device = .running ∧ t.vote.openRound = .idle ∧ t.vote.deadline = none ∧ t.vote.proposers = 0 ∧
        ((∀ m, s.laneState m = .linked → joins m) → t.notices = posted s.vote.lastEnded s.notices
          (changes ++ [.stateChange .gathering .running .quorumReached]))) ∧
      (count < new.quorum →
        t.device = .gathering ∧ t.vote.openRound = s.vote.openRound ∧
        ((∀ m, s.laneState m = .linked → joins m) →
          t.notices = posted s.vote.lastEnded s.notices changes))

/-! ## Staging -/

/-- STAGE_WRITE by the device state and the staging state; an accepted write replaces exactly the bytes of its range. -/
def Obligations.StageWriteByState : Prop :=
  ∀ (s : State) (l : Lane) (q hi lo : Byte) (data : List Byte), Takes s l q (hi :: lo :: data) →
    Memory.wf (s.staging.row l).image →
    let offset := hi.toNat * 256 + lo.toNat
    let refused := fun o payload => ∃ t, exec (.stageWrite l q (hi :: lo :: data)) s = .next t ∧ OnlyPorts s t ∧
      Answered s t l 0x07#8 q o payload false
    (data.length = 0 ∨ 192 < data.length → refused .badRequest []) ∧
    (1 ≤ data.length → data.length ≤ 192 →
      (s.device = .lockout → refused .lockout []) ∧
      (s.device ≠ .lockout → (s.staging.row l).state = .sealing → refused .sealing []) ∧
      (s.device ≠ .lockout → (s.staging.row l).state = .sealed → refused .sealed []) ∧
      (s.device ≠ .lockout → (s.staging.row l).state = .opened → 448 < offset + data.length →
        refused .badEntry [0x00#8]) ∧
      (s.device ≠ .lockout → (s.staging.row l).state = .opened → offset + data.length ≤ 448 →
        ∃ t, exec (.stageWrite l q (hi :: lo :: data)) s = .next t ∧ OutsideKept s t ∧
          t.toBlocks = s.toBlocks ∧ Answered s t l 0x07#8 q .accepted [] false ∧
          (∀ m, m ≠ l → t.staging.row m = s.staging.row m) ∧
          (t.staging.row l).state = .opened ∧ (t.staging.row l).digest = (s.staging.row l).digest ∧
          (t.staging.row l).sealTimer = (s.staging.row l).sealTimer ∧
          ∀ x, Memory.read (t.staging.row l).image x =
            (if offset ≤ x ∧ x < offset + data.length then data.getD (x - offset) 0
             else Memory.read (s.staging.row l).image x)))

/-- STAGE_SEAL by the device state and the staging state: a seal that begins holds a reserved slot and completes within
3 ms (log 22). The completion of a seal, at any moment of it (log 22): SEALED with the CRC-32 digest, or OPEN with no
digest, the image as it was; the reserved slot, if it stands, holds the response in its place. -/
def Obligations.SealBeginsAndCompletes : Prop :=
  (∀ (s : State) (l : Lane) (q : Byte) (d : Digest), Takes s l q [] →
    let refused := fun o payload => ∃ t, exec (.stageSeal l q []) s = .next t ∧ OnlyPorts s t ∧
      Answered s t l 0x08#8 q o payload false
    (s.device = .lockout → refused .lockout []) ∧
    (s.device ≠ .lockout → (s.staging.row l).state = .sealed → (s.staging.row l).digest = some d →
      refused .sealed (bytes32 d)) ∧
    (s.device ≠ .lockout → (s.staging.row l).state = .sealing → refused .sealing []) ∧
    (s.device ≠ .lockout → (s.staging.row l).state = .opened →
      ∃ t, exec (.stageSeal l q []) s = .next t ∧ OutsideKept s t ∧ t.toBlocks = s.toBlocks ∧ PortTook s t l q ∧
        (t.ports.row l).queue = (s.ports.row l).queue ++ [.reservation 0x08#8 q] ∧
        t.staging = s.staging.put l { s.staging.row l with state := .sealing, sealTimer := some 3 })) ∧
  ∀ (s : State) (l : Lane) (n : Nat), s.timer (.sealing l) = some n →
    let image := (s.staging.row l).image
    ∃ t outcome payload, exec (.sealCompletion l) s = .next t ∧ OutsideKept s t ∧ t.toBlocks = s.toBlocks ∧
      OtherPortsKept s t l ∧
      (validate image = none → outcome = .accepted ∧ payload = bytes32 (imageDigest image) ∧
        t.staging = s.staging.put l ⟨image, .sealed, some (imageDigest image), none⟩) ∧
      (∀ f, validate image = some f → outcome = .invalidConfig ∧ payload = f.reason.code :: bytes16 f.index ∧
        t.staging = s.staging.put l ⟨image, .opened, none, none⟩) ∧
      (t.ports.row l).expected = (s.ports.row l).expected ∧
      (t.ports.row l).outcome = (s.ports.row l).outcome ∧
      (∀ before k q after, (s.ports.row l).queue = before ++ ResponseSlot.reservation k q :: after →
        (∀ x ∈ before, x.isReservation = false) →
        (t.ports.row l).queue = before
          ++ ResponseSlot.response ⟨k, q, outcome, payload, s.failn, decide (0 < s.notices.unread l), false⟩
            :: after) ∧
      ((∀ x ∈ (s.ports.row l).queue, x.isReservation = false) →
        (t.ports.row l).queue = (s.ports.row l).queue)

/-- The validity checks of a seal, on the bytes of the image: it is valid exactly when every check passes; otherwise the
failure reported is one that fails while every check before it in the order passes. -/
def Obligations.SealChecksInOrder : Prop :=
  ∀ m : Memory, (validate m = none ↔ ∀ r i, Passes m r i) ∧
    ∀ r i, validate m = some ⟨r, i⟩ ↔
      (¬ Passes m r i ∧ ∀ r' i', checkPlace r' i' < checkPlace r i → Passes m r' i')

/-- STAGE_OPEN by the device state and the staging state; a SEALED image becomes OPEN with its bytes kept, and its lane
leaves the COMMIT_CONFIG ballot of the digest it carried. -/
def Obligations.StageOpenByState : Prop :=
  ∀ (s : State) (l : Lane) (q : Byte) (d : Digest), Takes s l q [] →
    let refused := fun o => ∃ t, exec (.stageOpen l q []) s = .next t ∧ OnlyPorts s t ∧
      Answered s t l 0x09#8 q o [] false
    (s.device = .lockout → refused .lockout) ∧
    (s.device ≠ .lockout → (s.staging.row l).state = .sealing → refused .sealing) ∧
    (s.device ≠ .lockout → (s.staging.row l).state = .opened → refused .accepted) ∧
    (s.device ≠ .lockout → (s.staging.row l).state = .sealed → (s.staging.row l).digest = some d →
      (∀ x ∈ s.ballots, x.supporters ≠ 0) →
      ∃ t, exec (.stageOpen l q []) s = .next t ∧ OutsideKept s t ∧ Answered s t l 0x09#8 q .accepted [] false ∧
        t.staging = s.staging.put l { s.staging.row l with state := .opened, digest := none } ∧
        t.toBlocks = { s.toBlocks with ballots := t.ballots, notices := t.notices } ∧
        (∀ x ∈ s.ballots, x.action ≠ .commitConfig d → x ∈ t.ballots) ∧
        (∀ x ∈ t.ballots, x.action = .commitConfig d → x.supporters.has l = false) ∧
        ∀ x ∈ s.ballots, x.action = .commitConfig d → (∃ m, m ≠ l ∧ x.supporters.has m = true) →
          { x with supporters := x.supporters.erase l } ∈ t.ballots)

/-- READ_STAGING changes no state but the port's and returns staging state and digest of the named lane, and bytes only of
the requesting lane's own image. -/
def Obligations.ReadStagingReturnsTheArea : Prop :=
  ∀ (s : State) (l m : Lane) (q hi lo len : Byte),
    let area := fun k : Lane => [byte k.val, (s.staging.row k).state.code]
      ++ (if (s.staging.row k).state = .sealed then bytes32 ((s.staging.row k).digest.getD 0)
          else [0x00#8, 0x00#8, 0x00#8, 0x00#8])
    let offset := hi.toNat * 256 + lo.toNat
    (Takes s l q [byte m.val] →
      ∃ t, exec (.readStaging l q [byte m.val]) s = .next t ∧ OnlyPorts s t ∧
        Answered s t l 0x0A#8 q .accepted (area m) false) ∧
    (Takes s l q [byte l.val, hi, lo, len] → 1 ≤ len.toNat → len.toNat ≤ 192 →
      (448 < offset + len.toNat →
        ∃ t, exec (.readStaging l q [byte l.val, hi, lo, len]) s = .next t ∧ OnlyPorts s t ∧
          Answered s t l 0x0A#8 q .badEntry [0x00#8] false) ∧
      (offset + len.toNat ≤ 448 →
        ∃ t, exec (.readStaging l q [byte l.val, hi, lo, len]) s = .next t ∧ OnlyPorts s t ∧
          Answered s t l 0x0A#8 q .accepted
            (area l ++ (List.range len.toNat).map (fun k => Memory.read (s.staging.row l).image (offset + k)))
            false))

/-! ## Notices and reads -/

/-- FETCH_NOTICES from a reader takes the oldest unread entries whole, as many as the maximum, the unread count and the
256-byte payload allow, moves the cursor past them, reports and clears the GAP mark, and leaves the queue with exactly the
entries that some reader has unread; from an ABSENT lane it is refused NOT_VOTING. A posting appends its entry with the
next number; in a full queue the oldest entry leaves first, and each reader whose cursor carried its number moves to the
entry that is now oldest, its GAP mark set. A lane that joins the readers has its cursor just past the newest entry and
its GAP mark clear; a lane that leaves has neither; then, while there is a reader, the entries that every reader has passed
leave. An entry is its 6-byte header and the body of its kind. -/
def Obligations.FetchTakesTheOldestUnread : Prop :=
  (∀ (s : State) (l : Lane) (q m : Byte) (r : Reader), Takes s l q [m] → 1 ≤ m.toNat → m.toNat ≤ 6 →
    (s.laneState l = .absent →
      ∃ t, exec (.fetchNotices l q [m]) s = .next t ∧ OnlyPorts s t ∧
        Answered s t l 0x0B#8 q .notVoting [] false) ∧
    (s.laneState l ≠ .absent → s.notices.readers.row l = some r → NoticeLaw s →
      let unread := s.notices.unread l
      let entries := s.notices.queue.drop (s.notices.queue.length - unread)
      ∃ t k, exec (.fetchNotices l q [m]) s = .next t ∧ OutsideKept s t ∧ t.staging = s.staging ∧
        k ≤ m.toNat ∧ k ≤ unread ∧ ((entries.take k).flatMap Notice.bytes).length ≤ 254 ∧
        (k = m.toNat ∨ k = unread ∨ 254 < ((entries.take (k + 1)).flatMap Notice.bytes).length) ∧
        Answered s t l 0x0B#8 q .accepted
          ([byte k, byte (unread - k)] ++ (entries.take k).flatMap Notice.bytes) r.gap ∧
        t.notices.readers.row l = some ⟨r.cursor + BitVec.ofNat 16 k, false⟩ ∧
        (∀ i, i ≠ l → t.notices.readers.row i = s.notices.readers.row i) ∧
        t.notices.next = s.notices.next ∧
        (∃ gone, s.notices.queue = gone ++ t.notices.queue) ∧ HoldsTheUnread t.notices ∧
        t.toBlocks = { s.toBlocks with notices := t.notices })) ∧
  (∀ (n : NoticeUnit) (stamp : BitVec 16) (body : NoticeBody),
    let t := n.post stamp body
    t.next = n.next + 1 ∧
    (n.queue.length < 48 → t.queue = n.queue ++ [⟨n.next, stamp, body⟩] ∧ t.readers = n.readers) ∧
    ∀ oldest second rest, n.queue = oldest :: second :: rest → 48 ≤ n.queue.length →
      t.queue = second :: rest ++ [⟨n.next, stamp, body⟩] ∧
      ∀ l, (n.readers.row l = none → t.readers.row l = none) ∧
        ∀ r, n.readers.row l = some r →
          t.readers.row l = some (if r.cursor = oldest.seq then ⟨second.seq, true⟩ else r)) ∧
  (∀ (n : NoticeUnit) (l : Lane), (∀ m, n.unread m ≤ n.queue.length) →
    let trimmed := fun t : NoticeUnit => t.next = n.next ∧
      (∀ m, m ≠ l → t.readers.row m = n.readers.row m) ∧ (∃ gone, n.queue = gone ++ t.queue) ∧
      ((∀ m, t.readers.row m = none) → t.queue = n.queue) ∧
      ((∃ m, t.readers.row m ≠ none) → HoldsTheUnread t)
    trimmed (n.joinReader l) ∧ (n.joinReader l).readers.row l = some ⟨n.next, false⟩ ∧
    trimmed (n.leaveReader l) ∧ (n.leaveReader l).readers.row l = none) ∧
  ∀ seq stamp : BitVec 16,
    let entry := fun body : NoticeBody => (Notice.mk seq stamp body).bytes
    let head := fun (kind : Byte) (length : Nat) =>
      bytes16 seq.toNat ++ [kind] ++ bytes16 stamp.toNat ++ [byte length]
    let fault := fun (c : Channel) (v : Drive) (level : ReadbackLevel) =>
      [byte c.val, v.type.code, byte (v.value / 256), byte v.value,
        if level = .energized then 0x01#8 else 0x00#8]
    (∀ (round : BitVec 16) (items : List (Channel × LaneSet)), entry (.dissent round items) =
      head 0x01#8 (3 + 2 * items.length) ++ bytes16 round.toNat ++ [byte items.length]
        ++ (items.map (fun i => [byte i.1.val, laneSetByte i.2])).flatten) ∧
    (∀ (round : BitVec 16) (items : List (Channel × Bool)), entry (.unagreed round items) =
      head 0x02#8 (3 + items.length) ++ bytes16 round.toNat ++ [byte items.length]
        ++ items.map (fun i => byte (i.1.val + if i.2 = true then 128 else 0))) ∧
    (∀ (round : BitVec 16) (items : List (Channel × GroupSet)), entry (.withheld round items) =
      head 0x03#8 (3 + 3 * items.length) ++ bytes16 round.toNat ++ [byte items.length]
        ++ (items.map (fun i => byte i.1.val :: bytes16 i.2.toNat)).flatten) ∧
    (∀ c v level, entry (.readbackFault c v level) = head 0x04#8 5 ++ fault c v level) ∧
    (∀ c v level, entry (.channelUnsafe c v level) = head 0x05#8 5 ++ fault c v level) ∧
    (∀ c before, entry (.faultCleared c before) = head 0x06#8 2 ++ [byte c.val, before.code]) ∧
    (∀ l before after cause, entry (.memberChange l before after cause) =
      head 0x07#8 4 ++ [byte l.val, before.code, after.code, cause.code]) ∧
    (∀ slot action supporters, entry (.ballotPassed slot action supporters) =
      head 0x08#8 7 ++ [byte slot.val, action.code] ++ action.argument ++ [laneSetByte supporters]) ∧
    (∀ slot action cause supporters, entry (.ballotEnded slot action cause supporters) =
      head 0x09#8 8 ++ [byte slot.val, action.code] ++ action.argument ++ [cause.code, laneSetByte supporters]) ∧
    (∀ new, entry (.configSwitched none new) = head 0x0A#8 9 ++ [0x00#8] ++ bytes32 0 ++ bytes32 new) ∧
    (∀ old new, entry (.configSwitched (some old) new) = head 0x0A#8 9 ++ [0x01#8] ++ bytes32 old ++ bytes32 new) ∧
    ∀ before after cause, entry (.stateChange before after cause) =
      head 0x0B#8 3 ++ [before.code, after.code, cause.code]

/-- READ_STATUS changes nothing but the port and returns 41 bytes with each item at its place. -/
def Obligations.ReadStatusReportsTheState : Prop :=
  ∀ (s : State) (l : Lane) (q : Byte), Takes s l q [] →
    ∃ t p, exec (.readStatus l q []) s = .next t ∧ OnlyPorts s t ∧ Answered s t l 0x0C#8 q .accepted p false ∧
      p.length = 41 ∧ p.getD 0 0 = s.device.code ∧ (p.drop 1).take 2 = bytes16 s.vote.nextRound.toNat ∧
      p.getD 3 0 = s.vote.openRound.code ∧ p.getD 4 0 = laneSetByte s.vote.proposers ∧
      ((p.getD 5 0).getLsbD 0 = s.active.isSome ∧ (p.getD 5 0).getLsbD 1 = s.pendingRecord.isSome ∧
        (p.getD 5 0).getLsbD 2 = s.active.isSome ∧ (p.getD 5 0).getLsbD 3 = s.lockoutRecord.isSome ∧
        (p.getD 5 0).getLsbD 4 = !s.notices.queue.isEmpty) ∧
      (∀ a, s.active = some a → (p.drop 6).take 4 = bytes32 a.digest ∧ p.getD 14 0 = byte a.record.quorum) ∧
      (∀ r, s.pendingRecord = some r → (p.drop 10).take 4 = bytes32 r.digest) ∧
      (∀ m : Lane, p.getD (15 + 4 * m.val) 0 = (s.laneState m).code ∧
        p.getD (16 + 4 * m.val) 0 = byte (s.lanes.row m).strikes ∧
        (p.getD (17 + 4 * m.val) 0).getLsbD 0 = (s.lanes.row m).returnPending ∧
        (p.getD (17 + 4 * m.val) 0).getLsbD 1 = (s.lanes.row m).rejoinRequested ∧
        p.getD (18 + 4 * m.val) 0 = byte (IndexSet.size (s.output.vetoes.row m))) ∧
      p.getD 31 0 = (if s.failn = true then 0x01#8 else 0x00#8) ∧
      (∀ r, s.lockoutRecord = some r → p.getD 32 0 = r.cause.code ∧
        (p.drop 33).take 2 = bytes16 r.round.toNat ∧ p.getD 35 0 = r.prior.code) ∧
      p.getD 36 0 = byte s.notices.queue.length ∧
      (∀ n, s.notices.queue.head? = some n → (p.drop 37).take 2 = bytes16 n.seq.toNat) ∧
      (∀ n, s.notices.queue.getLast? = some n → (p.drop 39).take 2 = bytes16 n.seq.toNat)

/-- READ_CHANNELS changes nothing but the port; beyond channel 63 it is refused BAD_ENTRY, otherwise it returns seven bytes
for each channel with each item at its place. -/
def Obligations.ReadChannelsReportsTheChannels : Prop :=
  ∀ (s : State) (l : Lane) (q first count : Byte), Takes s l q [first, count] → first.toNat ≤ 63 →
    1 ≤ count.toNat → count.toNat ≤ 32 →
    ∃ t, exec (.readChannels l q [first, count]) s = .next t ∧ OnlyPorts s t ∧
      (64 < first.toNat + count.toNat → Answered s t l 0x0D#8 q .badEntry [0x00#8] false) ∧
      (first.toNat + count.toNat ≤ 64 →
        ∃ p, Answered s t l 0x0D#8 q .accepted p false ∧ p.length = 2 + 7 * count.toNat ∧ p.getD 0 0 = first ∧
          p.getD 1 0 = count ∧
          ∀ c : Channel, first.toNat ≤ c.val → c.val < first.toNat + count.toNat →
            let r := p.drop (2 + 7 * (c.val - first.toNat))
            let o := s.channelOutput c
            (r.getD 0 0).toNat % 4 = (s.channelType c).code.toNat ∧
            (r.getD 0 0).toNat / 4 % 4 = o.fault.code.toNat ∧
            ((r.getD 0 0).getLsbD 4 = true ↔ o.readback = .energized) ∧
            (r.getD 0 0).getLsbD 5 = o.settle.isSome ∧
            (r.getD 0 0).getLsbD 6 = (s.vote.channels.row c).stale ∧
            (r.getD 0 0).getLsbD 7 = (s.vote.channels.row c).withheld ∧
            (r.drop 1).take 2 = bytes16 (s.agreed c) ∧ (r.drop 3).take 2 = bytes16 o.drive.value ∧
            r.getD 5 0 = byte (s.vote.channels.row c).hold ∧
            ∀ m : Lane, (r.getD 6 0).getLsbD m.val = (s.output.vetoes.row m).has c)

/-- READ_BALLOTS changes nothing but the port and returns the open ballots in creation order, eleven bytes each; the quorum
is that of the active configuration. -/
def Obligations.ReadBallotsListsTheTable : Prop :=
  ∀ (s : State) (l : Lane) (q : Byte), Takes s l q [] →
    ∃ t p, exec (.readBallots l q []) s = .next t ∧ OnlyPorts s t ∧ Answered s t l 0x0E#8 q .accepted p false ∧
      p.length = 1 + 11 * s.ballots.length ∧ p.getD 0 0 = byte s.ballots.length ∧
      ∀ i x, s.ballots[i]? = some x →
        let r := p.drop (1 + 11 * i)
        r.getD 0 0 = byte x.slot.val ∧ r.getD 1 0 = x.action.code ∧ (r.drop 2).take 4 = x.action.argument ∧
        r.getD 6 0 = laneSetByte x.supporters ∧ r.getD 7 0 = byte x.supporters.size ∧
        (∀ a, s.active = some a → r.getD 8 0 = byte a.record.quorum) ∧
        (∀ m, s.active = none → x.supporters.has m = true → (∀ k, k < m → x.supporters.has k = false) →
          r.getD 8 0 = Memory.read (s.staging.row m).image 1) ∧
        (r.drop 9).take 2 = bytes16 x.lifetime

end Statements
end

