-- ==== Sys2Proof/Laws/Tables.lean ====
section
/-! SUPPORT. Tables and index sets: a row after each update, membership after each update. -/

namespace Sys2Proof

namespace Table

variable {n : Nat} {α β : Type}

@[simp] theorem row_put_self (t : Table n α) (i : Fin n) (x : α) : row (put t i x) i = x := by
  simp [row, put]

theorem row_put_of_ne (t : Table n α) {i j : Fin n} (h : i ≠ j) (x : α) : row (put t i x) j = row t j := by
  have hv : i.val ≠ j.val := fun e => h (Fin.ext e)
  simp [row, put, hv]

theorem row_put (t : Table n α) (i j : Fin n) (x : α) : row (put t i x) j = if i = j then x else row t j := by
  by_cases h : i = j
  · subst h; simp
  · simp [h, row_put_of_ne t h]

@[simp] theorem row_build (f : Fin n → α) (i : Fin n) : row (build f) i = f i := by
  simp [row, build]

@[simp] theorem row_mapRows (t : Table n α) (f : α → β) (i : Fin n) : row (mapRows t f) i = f (row t i) := by
  simp [mapRows]

@[simp] theorem row_fill (x : α) (i : Fin n) : row (fill n x) i = x := by simp [fill]

theorem ext_rows {t u : Table n α} (h : ∀ i, row t i = row u i) : t = u := by
  apply Vector.ext
  intro i hi
  exact h ⟨i, hi⟩

@[simp] theorem build_row (t : Table n α) : build (row t) = t := ext_rows (by simp)

@[simp] theorem put_row (t : Table n α) (i : Fin n) : put t i (row t i) = t := by
  apply ext_rows
  intro j
  rw [row_put]
  split <;> simp_all

end Table

namespace IndexSet

variable {n : Nat}

theorem has_insert (s : IndexSet n) (i j : Fin n) : has (insert s i) j = (has s j || decide (i = j)) := by
  have hj := j.isLt
  simp only [has, insert, BitVec.getLsbD_or, BitVec.getLsbD_twoPow, Fin.ext_iff]
  simp [hj, i.isLt]

theorem has_erase (s : IndexSet n) (i j : Fin n) : has (erase s i) j = (has s j && decide (i ≠ j)) := by
  have hj := j.isLt
  simp only [has, erase, BitVec.getLsbD_and, BitVec.getLsbD_not, BitVec.getLsbD_twoPow]
  simp [hj, i.isLt, Fin.ext_iff]

@[simp] theorem has_zero (i : Fin n) : has (0#n) i = false := by simp [has]

@[simp] theorem has_empty (i : Fin n) : has (0 : IndexSet n) i = false := by simp [has]

@[simp] theorem has_and (s t : IndexSet n) (i : Fin n) : has (s &&& t) i = (has s i && has t i) := by
  simp [has]

@[simp] theorem mem_members (s : IndexSet n) (i : Fin n) : i ∈ members s ↔ has s i = true := by
  simp [members]

theorem has_foldl_insert (p : Fin n → Bool) (l : List (Fin n)) (s : IndexSet n) (j : Fin n) :
    has (l.foldl (fun acc i => if p i then insert acc i else acc) s) j
      = (has s j || (decide (j ∈ l) && p j)) := by
  induction l generalizing s with
  | nil => simp
  | cons i rest ih =>
    simp only [List.foldl_cons, ih, List.mem_cons]
    by_cases hp : p i = true
    · by_cases e : i = j
      · subst e; simp [hp, has_insert]
      · have e' : ¬ j = i := fun h => e h.symm
        simp [hp, has_insert, e, e']
    · by_cases e : j = i
      · subst e; simp [hp]
      · simp [hp, e]

@[simp] theorem has_ofPred (p : Fin n → Bool) (j : Fin n) : has (ofPred p) j = p j := by
  simp [ofPred, has_foldl_insert]

/-- Two sets with the same members are equal. -/
theorem ext_members {s t : IndexSet n} (h : ∀ i, has s i = has t i) : s = t := by
  apply BitVec.eq_of_getLsbD_eq
  intro i hi
  exact h ⟨i, hi⟩

theorem members_nodup (s : IndexSet n) : (members s).Nodup := by
  unfold members
  exact List.Pairwise.sublist List.filter_sublist (List.nodup_finRange n)

/-- A set with no member is empty. -/
theorem eq_zero_iff (s : IndexSet n) : s = 0 ↔ ∀ i, has s i = false := by
  constructor
  · intro h i; subst h; simp
  · intro h; exact ext_members (by simpa using h)

end IndexSet

end Sys2Proof
end

