-- ==== Sys2Proof/Laws/State.lean ====
section
/-! SUPPORT. What each record update of the state leaves as it was and what it writes: every lemma holds by unfolding one
record update, so no later proof unfolds one. A lemma `<update>_kept` lists the fields the update leaves. -/

namespace Sys2Proof.Machine

namespace Blocks

@[simp] theorem setLane_kept (b : Blocks) (l : Lane) (r : LaneRecord) :
    (b.setLane l r).device = b.device ∧
    (b.setLane l r).lockoutRecord = b.lockoutRecord ∧
    (b.setLane l r).failn = b.failn ∧
    (b.setLane l r).vote = b.vote ∧
    (b.setLane l r).ballots = b.ballots ∧
    (b.setLane l r).active = b.active ∧
    (b.setLane l r).pendingRecord = b.pendingRecord ∧
    (b.setLane l r).output = b.output ∧
    (b.setLane l r).notices = b.notices :=
  ⟨rfl, rfl, rfl, rfl, rfl, rfl, rfl, rfl, rfl⟩

@[simp] theorem startLease_kept (b : Blocks) (l : Lane) :
    (b.startLease l).device = b.device ∧
    (b.startLease l).lockoutRecord = b.lockoutRecord ∧
    (b.startLease l).failn = b.failn ∧
    (b.startLease l).vote = b.vote ∧
    (b.startLease l).ballots = b.ballots ∧
    (b.startLease l).active = b.active ∧
    (b.startLease l).pendingRecord = b.pendingRecord ∧
    (b.startLease l).output = b.output ∧
    (b.startLease l).notices = b.notices :=
  ⟨rfl, rfl, rfl, rfl, rfl, rfl, rfl, rfl, rfl⟩

@[simp] theorem setChannelOutput_kept (b : Blocks) (c : Channel) (o : ChannelOutput) :
    (b.setChannelOutput c o).device = b.device ∧
    (b.setChannelOutput c o).lockoutRecord = b.lockoutRecord ∧
    (b.setChannelOutput c o).failn = b.failn ∧
    (b.setChannelOutput c o).vote = b.vote ∧
    (b.setChannelOutput c o).lanes = b.lanes ∧
    (b.setChannelOutput c o).ballots = b.ballots ∧
    (b.setChannelOutput c o).active = b.active ∧
    (b.setChannelOutput c o).pendingRecord = b.pendingRecord ∧
    (b.setChannelOutput c o).notices = b.notices :=
  ⟨rfl, rfl, rfl, rfl, rfl, rfl, rfl, rfl, rfl⟩

@[simp] theorem setFault_kept (b : Blocks) (c : Channel) (f : FaultState) :
    (b.setFault c f).device = b.device ∧
    (b.setFault c f).lockoutRecord = b.lockoutRecord ∧
    (b.setFault c f).failn = b.failn ∧
    (b.setFault c f).vote = b.vote ∧
    (b.setFault c f).lanes = b.lanes ∧
    (b.setFault c f).ballots = b.ballots ∧
    (b.setFault c f).active = b.active ∧
    (b.setFault c f).pendingRecord = b.pendingRecord ∧
    (b.setFault c f).notices = b.notices :=
  ⟨rfl, rfl, rfl, rfl, rfl, rfl, rfl, rfl, rfl⟩

@[simp] theorem dropVetoes_kept (b : Blocks) (l : Lane) :
    (b.dropVetoes l).device = b.device ∧
    (b.dropVetoes l).lockoutRecord = b.lockoutRecord ∧
    (b.dropVetoes l).failn = b.failn ∧
    (b.dropVetoes l).vote = b.vote ∧
    (b.dropVetoes l).lanes = b.lanes ∧
    (b.dropVetoes l).ballots = b.ballots ∧
    (b.dropVetoes l).active = b.active ∧
    (b.dropVetoes l).pendingRecord = b.pendingRecord ∧
    (b.dropVetoes l).notices = b.notices :=
  ⟨rfl, rfl, rfl, rfl, rfl, rfl, rfl, rfl, rfl⟩

@[simp] theorem refreshOutputs_kept (b : Blocks) :
    (b.refreshOutputs).device = b.device ∧
    (b.refreshOutputs).lockoutRecord = b.lockoutRecord ∧
    (b.refreshOutputs).failn = b.failn ∧
    (b.refreshOutputs).vote = b.vote ∧
    (b.refreshOutputs).lanes = b.lanes ∧
    (b.refreshOutputs).ballots = b.ballots ∧
    (b.refreshOutputs).active = b.active ∧
    (b.refreshOutputs).pendingRecord = b.pendingRecord ∧
    (b.refreshOutputs).notices = b.notices :=
  ⟨rfl, rfl, rfl, rfl, rfl, rfl, rfl, rfl, rfl⟩

@[simp] theorem refreshChannel_kept (b : Blocks) (c : Channel) :
    (b.refreshChannel c).device = b.device ∧
    (b.refreshChannel c).lockoutRecord = b.lockoutRecord ∧
    (b.refreshChannel c).failn = b.failn ∧
    (b.refreshChannel c).vote = b.vote ∧
    (b.refreshChannel c).lanes = b.lanes ∧
    (b.refreshChannel c).ballots = b.ballots ∧
    (b.refreshChannel c).active = b.active ∧
    (b.refreshChannel c).pendingRecord = b.pendingRecord ∧
    (b.refreshChannel c).notices = b.notices :=
  ⟨rfl, rfl, rfl, rfl, rfl, rfl, rfl, rfl, rfl⟩

@[simp] theorem updateFailn_kept (b : Blocks) :
    (b.updateFailn).device = b.device ∧
    (b.updateFailn).lockoutRecord = b.lockoutRecord ∧
    (b.updateFailn).vote = b.vote ∧
    (b.updateFailn).lanes = b.lanes ∧
    (b.updateFailn).ballots = b.ballots ∧
    (b.updateFailn).active = b.active ∧
    (b.updateFailn).pendingRecord = b.pendingRecord ∧
    (b.updateFailn).output = b.output ∧
    (b.updateFailn).notices = b.notices :=
  ⟨rfl, rfl, rfl, rfl, rfl, rfl, rfl, rfl, rfl⟩

@[simp] theorem readbackChanges_kept (b : Blocks) (c : Channel) (level : ReadbackLevel) :
    (b.readbackChanges c level).device = b.device ∧
    (b.readbackChanges c level).lockoutRecord = b.lockoutRecord ∧
    (b.readbackChanges c level).failn = b.failn ∧
    (b.readbackChanges c level).vote = b.vote ∧
    (b.readbackChanges c level).lanes = b.lanes ∧
    (b.readbackChanges c level).ballots = b.ballots ∧
    (b.readbackChanges c level).active = b.active ∧
    (b.readbackChanges c level).pendingRecord = b.pendingRecord ∧
    (b.readbackChanges c level).notices = b.notices :=
  ⟨rfl, rfl, rfl, rfl, rfl, rfl, rfl, rfl, rfl⟩

@[simp] theorem acceptVeto_kept (b : Blocks) (l : Lane) (entries : List (Channel × Bool)) :
    (b.acceptVeto l entries).device = b.device ∧
    (b.acceptVeto l entries).lockoutRecord = b.lockoutRecord ∧
    (b.acceptVeto l entries).failn = b.failn ∧
    (b.acceptVeto l entries).vote = b.vote ∧
    (b.acceptVeto l entries).lanes = b.lanes ∧
    (b.acceptVeto l entries).ballots = b.ballots ∧
    (b.acceptVeto l entries).active = b.active ∧
    (b.acceptVeto l entries).pendingRecord = b.pendingRecord ∧
    (b.acceptVeto l entries).notices = b.notices :=
  ⟨rfl, rfl, rfl, rfl, rfl, rfl, rfl, rfl, rfl⟩

@[simp] theorem post_kept (b : Blocks) (body : NoticeBody) :
    (b.post body).device = b.device ∧
    (b.post body).lockoutRecord = b.lockoutRecord ∧
    (b.post body).failn = b.failn ∧
    (b.post body).vote = b.vote ∧
    (b.post body).lanes = b.lanes ∧
    (b.post body).ballots = b.ballots ∧
    (b.post body).active = b.active ∧
    (b.post body).pendingRecord = b.pendingRecord ∧
    (b.post body).output = b.output :=
  ⟨rfl, rfl, rfl, rfl, rfl, rfl, rfl, rfl, rfl⟩

@[simp] theorem postState_kept (b : Blocks) (x y : DeviceState) (cause : StateCause) :
    (b.postState x y cause).device = b.device ∧
    (b.postState x y cause).lockoutRecord = b.lockoutRecord ∧
    (b.postState x y cause).failn = b.failn ∧
    (b.postState x y cause).vote = b.vote ∧
    (b.postState x y cause).lanes = b.lanes ∧
    (b.postState x y cause).ballots = b.ballots ∧
    (b.postState x y cause).active = b.active ∧
    (b.postState x y cause).pendingRecord = b.pendingRecord ∧
    (b.postState x y cause).output = b.output :=
  ⟨rfl, rfl, rfl, rfl, rfl, rfl, rfl, rfl, rfl⟩

@[simp] theorem openNextRound_kept (b : Blocks) :
    (b.openNextRound).device = b.device ∧
    (b.openNextRound).lockoutRecord = b.lockoutRecord ∧
    (b.openNextRound).failn = b.failn ∧
    (b.openNextRound).lanes = b.lanes ∧
    (b.openNextRound).ballots = b.ballots ∧
    (b.openNextRound).active = b.active ∧
    (b.openNextRound).pendingRecord = b.pendingRecord ∧
    (b.openNextRound).output = b.output ∧
    (b.openNextRound).notices = b.notices :=
  ⟨rfl, rfl, rfl, rfl, rfl, rfl, rfl, rfl, rfl⟩

@[simp] theorem writeFallbackImage_kept (b : Blocks) :
    (b.writeFallbackImage).device = b.device ∧
    (b.writeFallbackImage).lockoutRecord = b.lockoutRecord ∧
    (b.writeFallbackImage).failn = b.failn ∧
    (b.writeFallbackImage).lanes = b.lanes ∧
    (b.writeFallbackImage).ballots = b.ballots ∧
    (b.writeFallbackImage).active = b.active ∧
    (b.writeFallbackImage).pendingRecord = b.pendingRecord ∧
    (b.writeFallbackImage).output = b.output ∧
    (b.writeFallbackImage).notices = b.notices :=
  ⟨rfl, rfl, rfl, rfl, rfl, rfl, rfl, rfl, rfl⟩

@[simp] theorem abandonRound_kept (b : Blocks) :
    (b.abandonRound).device = b.device ∧
    (b.abandonRound).lockoutRecord = b.lockoutRecord ∧
    (b.abandonRound).failn = b.failn ∧
    (b.abandonRound).lanes = b.lanes ∧
    (b.abandonRound).ballots = b.ballots ∧
    (b.abandonRound).active = b.active ∧
    (b.abandonRound).pendingRecord = b.pendingRecord ∧
    (b.abandonRound).output = b.output ∧
    (b.abandonRound).notices = b.notices :=
  ⟨rfl, rfl, rfl, rfl, rfl, rfl, rfl, rfl, rfl⟩

@[simp] theorem switchVote_kept (b : Blocks) :
    (b.switchVote).device = b.device ∧
    (b.switchVote).lockoutRecord = b.lockoutRecord ∧
    (b.switchVote).failn = b.failn ∧
    (b.switchVote).lanes = b.lanes ∧
    (b.switchVote).ballots = b.ballots ∧
    (b.switchVote).active = b.active ∧
    (b.switchVote).pendingRecord = b.pendingRecord ∧
    (b.switchVote).output = b.output ∧
    (b.switchVote).notices = b.notices :=
  ⟨rfl, rfl, rfl, rfl, rfl, rfl, rfl, rfl, rfl⟩

@[simp] theorem switchOutputs_kept (b : Blocks) (oldType : Channel → ChannelType) :
    (b.switchOutputs oldType).device = b.device ∧
    (b.switchOutputs oldType).lockoutRecord = b.lockoutRecord ∧
    (b.switchOutputs oldType).failn = b.failn ∧
    (b.switchOutputs oldType).vote = b.vote ∧
    (b.switchOutputs oldType).lanes = b.lanes ∧
    (b.switchOutputs oldType).ballots = b.ballots ∧
    (b.switchOutputs oldType).active = b.active ∧
    (b.switchOutputs oldType).pendingRecord = b.pendingRecord ∧
    (b.switchOutputs oldType).notices = b.notices :=
  ⟨rfl, rfl, rfl, rfl, rfl, rfl, rfl, rfl, rfl⟩

@[simp] theorem restartVotingLeases_kept (b : Blocks) :
    (b.restartVotingLeases).device = b.device ∧
    (b.restartVotingLeases).lockoutRecord = b.lockoutRecord ∧
    (b.restartVotingLeases).failn = b.failn ∧
    (b.restartVotingLeases).vote = b.vote ∧
    (b.restartVotingLeases).ballots = b.ballots ∧
    (b.restartVotingLeases).active = b.active ∧
    (b.restartVotingLeases).pendingRecord = b.pendingRecord ∧
    (b.restartVotingLeases).output = b.output ∧
    (b.restartVotingLeases).notices = b.notices :=
  ⟨rfl, rfl, rfl, rfl, rfl, rfl, rfl, rfl, rfl⟩

@[simp] theorem removeBallot_kept (b : Blocks) (slot : BallotSlot) :
    (b.removeBallot slot).device = b.device ∧
    (b.removeBallot slot).lockoutRecord = b.lockoutRecord ∧
    (b.removeBallot slot).failn = b.failn ∧
    (b.removeBallot slot).vote = b.vote ∧
    (b.removeBallot slot).lanes = b.lanes ∧
    (b.removeBallot slot).active = b.active ∧
    (b.removeBallot slot).pendingRecord = b.pendingRecord ∧
    (b.removeBallot slot).output = b.output ∧
    (b.removeBallot slot).notices = b.notices :=
  ⟨rfl, rfl, rfl, rfl, rfl, rfl, rfl, rfl, rfl⟩

@[simp] theorem setSupporters_kept (b : Blocks) (slot : BallotSlot) (supporters : LaneSet) :
    (b.setSupporters slot supporters).device = b.device ∧
    (b.setSupporters slot supporters).lockoutRecord = b.lockoutRecord ∧
    (b.setSupporters slot supporters).failn = b.failn ∧
    (b.setSupporters slot supporters).vote = b.vote ∧
    (b.setSupporters slot supporters).lanes = b.lanes ∧
    (b.setSupporters slot supporters).active = b.active ∧
    (b.setSupporters slot supporters).pendingRecord = b.pendingRecord ∧
    (b.setSupporters slot supporters).output = b.output ∧
    (b.setSupporters slot supporters).notices = b.notices :=
  ⟨rfl, rfl, rfl, rfl, rfl, rfl, rfl, rfl, rfl⟩

@[simp] theorem createBallot_kept (b : Blocks) (staging : Staging) (l : Lane) (action : BallotAction) (slot : BallotSlot) :
    (b.createBallot staging l action slot).device = b.device ∧
    (b.createBallot staging l action slot).lockoutRecord = b.lockoutRecord ∧
    (b.createBallot staging l action slot).failn = b.failn ∧
    (b.createBallot staging l action slot).vote = b.vote ∧
    (b.createBallot staging l action slot).lanes = b.lanes ∧
    (b.createBallot staging l action slot).active = b.active ∧
    (b.createBallot staging l action slot).pendingRecord = b.pendingRecord ∧
    (b.createBallot staging l action slot).output = b.output ∧
    (b.createBallot staging l action slot).notices = b.notices :=
  ⟨rfl, rfl, rfl, rfl, rfl, rfl, rfl, rfl, rfl⟩

@[simp] theorem timersLater_kept (b : Blocks) :
    (b.timersLater).device = b.device ∧
    (b.timersLater).lockoutRecord = b.lockoutRecord ∧
    (b.timersLater).failn = b.failn ∧
    (b.timersLater).active = b.active ∧
    (b.timersLater).pendingRecord = b.pendingRecord ∧
    (b.timersLater).notices = b.notices :=
  ⟨rfl, rfl, rfl, rfl, rfl, rfl⟩

/-! ## What the updates write -/

@[simp] theorem setLane_lanes (b : Blocks) (l : Lane) (r : LaneRecord) :
    (b.setLane l r).lanes = b.lanes.put l r := rfl

@[simp] theorem startLease_lanes (b : Blocks) (l : Lane) :
    (b.startLease l).lanes = b.lanes.put l { b.lanes.row l with lease := some b.config.lease } := rfl

@[simp] theorem setChannelOutput_vetoes (b : Blocks) (c : Channel) (o : ChannelOutput) :
    (b.setChannelOutput c o).output.vetoes = b.output.vetoes := rfl

@[simp] theorem setChannelOutput_channels (b : Blocks) (c : Channel) (o : ChannelOutput) :
    (b.setChannelOutput c o).output.channels = b.output.channels.put c o := rfl

@[simp] theorem setFault_vetoes (b : Blocks) (c : Channel) (f : FaultState) :
    (b.setFault c f).output.vetoes = b.output.vetoes := rfl

@[simp] theorem setFault_channels (b : Blocks) (c : Channel) (f : FaultState) :
    (b.setFault c f).output.channels = b.output.channels.put c { b.channelOutput c with fault := f } := rfl

@[simp] theorem dropVetoes_vetoes (b : Blocks) (l : Lane) :
    (b.dropVetoes l).output.vetoes = b.output.vetoes.put l 0 := rfl

@[simp] theorem dropVetoes_channels (b : Blocks) (l : Lane) :
    (b.dropVetoes l).output.channels = b.output.channels := rfl

@[simp] theorem refreshOutputs_vetoes (b : Blocks) : b.refreshOutputs.output.vetoes = b.output.vetoes := rfl

@[simp] theorem refreshOutputs_channels (b : Blocks) :
    b.refreshOutputs.output.channels = Table.build (fun c => b.refreshedOutput c) := rfl

@[simp] theorem refreshChannel_vetoes (b : Blocks) (c : Channel) :
    (b.refreshChannel c).output.vetoes = b.output.vetoes := rfl

@[simp] theorem refreshChannel_channels (b : Blocks) (c : Channel) :
    (b.refreshChannel c).output.channels = b.output.channels.put c (b.refreshedOutput c) := rfl

@[simp] theorem updateFailn_failn (b : Blocks) : b.updateFailn.failn = b.failnCondition := rfl

@[simp] theorem post_notices (b : Blocks) (body : NoticeBody) :
    (b.post body).notices = b.notices.post b.vote.lastEnded body := rfl

@[simp] theorem postState_notices (b : Blocks) (x y : DeviceState) (cause : StateCause) :
    (b.postState x y cause).notices = b.notices.post b.vote.lastEnded (.stateChange x y cause) := rfl

@[simp] theorem openNextRound_openRound (b : Blocks) : b.openNextRound.vote.openRound = .idle := rfl

@[simp] theorem openNextRound_nextRound (b : Blocks) : b.openNextRound.vote.nextRound = b.vote.nextRound := rfl

@[simp] theorem openNextRound_deadline (b : Blocks) : b.openNextRound.vote.deadline = none := rfl

@[simp] theorem openNextRound_channels (b : Blocks) : b.openNextRound.vote.channels = b.vote.channels := rfl

@[simp] theorem openNextRound_proposers (b : Blocks) : b.openNextRound.vote.proposers = 0 := rfl

@[simp] theorem openNextRound_proposals (b : Blocks) :
    b.openNextRound.vote.proposals = Table.fill 4 ProposalRow.empty := rfl

@[simp] theorem abandonRound_vote (b : Blocks) :
    b.abandonRound.vote = { b.vote with openRound := .none, deadline := none } := rfl

@[simp] theorem writeFallbackImage_channels (b : Blocks) :
    b.writeFallbackImage.vote.channels
      = Table.build (fun c => { b.vote.channels.row c with agreed := b.fallback c }) := rfl

@[simp] theorem writeFallbackImage_openRound (b : Blocks) :
    b.writeFallbackImage.vote.openRound = b.vote.openRound := rfl

@[simp] theorem writeFallbackImage_nextRound (b : Blocks) :
    b.writeFallbackImage.vote.nextRound = b.vote.nextRound := rfl

@[simp] theorem writeFallbackImage_deadline (b : Blocks) :
    b.writeFallbackImage.vote.deadline = b.vote.deadline := rfl

@[simp] theorem switchVote_channels (b : Blocks) :
    b.switchVote.vote.channels = Table.build (fun c => ⟨b.fallback c, 0, false, false⟩) := rfl

@[simp] theorem switchVote_openRound (b : Blocks) : b.switchVote.vote.openRound = b.vote.openRound := rfl

@[simp] theorem switchVote_nextRound (b : Blocks) : b.switchVote.vote.nextRound = b.vote.nextRound := rfl

@[simp] theorem switchVote_deadline (b : Blocks) : b.switchVote.vote.deadline = b.vote.deadline := rfl

@[simp] theorem removeBallot_ballots (b : Blocks) (slot : BallotSlot) :
    (b.removeBallot slot).ballots = b.ballots.filter (fun x => x.slot != slot) := rfl

/-- The views of the configuration depend on the active configuration alone. -/
theorem config_congr {b d : Blocks} (h : b.active = d.active) : b.config = d.config := by
  unfold config; rw [h]

theorem entry_congr {b d : Blocks} (h : b.active = d.active) (c : Channel) : b.entry c = d.entry c := by
  unfold entry; rw [config_congr h]

theorem channelType_congr {b d : Blocks} (h : b.active = d.active) (c : Channel) :
    b.channelType c = d.channelType c := by
  unfold channelType; rw [entry_congr h]

theorem fallback_congr {b d : Blocks} (h : b.active = d.active) (c : Channel) : b.fallback c = d.fallback c := by
  unfold fallback; rw [entry_congr h]

theorem laneState_congr {b d : Blocks} (h : b.lanes = d.lanes) (l : Lane) : b.laneState l = d.laneState l := by
  unfold laneState; rw [h]

theorem channelOutput_congr {b d : Blocks} (h : b.output = d.output) (c : Channel) :
    b.channelOutput c = d.channelOutput c := by
  unfold channelOutput; rw [h]

theorem vetoed_congr {b d : Blocks} (h : b.output = d.output) (c : Channel) : b.vetoed c = d.vetoed c := by
  unfold vetoed; rw [h]

@[simp] theorem laneState_setLane (b : Blocks) (l m : Lane) (r : LaneRecord) :
    (b.setLane l r).laneState m = if l = m then r.state else b.laneState m := by
  unfold laneState
  rw [setLane_lanes, Table.row_put]
  split <;> rfl

end Blocks

namespace State

/-! ## Updates of the whole state -/

@[simp] theorem setBlocks_toBlocks (s : State) (b : Blocks) : (s.setBlocks b).toBlocks = b := rfl

@[simp] theorem setBlocks_kept (s : State) (b : Blocks) :
    (s.setBlocks b).power = s.power ∧ (s.setBlocks b).staging = s.staging ∧ (s.setBlocks b).ports = s.ports ∧
    (s.setBlocks b).clock = s.clock ∧ (s.setBlocks b).pending = s.pending := ⟨rfl, rfl, rfl, rfl, rfl⟩

@[simp] theorem setPort_ports (s : State) (l : Lane) (p : Port) : (s.setPort l p).ports = s.ports.put l p := rfl

@[simp] theorem setPort_kept (s : State) (l : Lane) (p : Port) :
    (s.setPort l p).toBlocks = s.toBlocks ∧ (s.setPort l p).power = s.power ∧
    (s.setPort l p).staging = s.staging ∧ (s.setPort l p).clock = s.clock ∧
    (s.setPort l p).pending = s.pending := ⟨rfl, rfl, rfl, rfl, rfl⟩

@[simp] theorem setOutcome_ports (s : State) (l : Lane) (o : PortOutcome) (q : Option Byte) :
    (s.setOutcome l o q).ports = s.ports.put l { s.ports.row l with outcome := o, outcomeSeq := q } := rfl

@[simp] theorem setOutcome_kept (s : State) (l : Lane) (o : PortOutcome) (q : Option Byte) :
    (s.setOutcome l o q).toBlocks = s.toBlocks ∧ (s.setOutcome l o q).power = s.power ∧
    (s.setOutcome l o q).staging = s.staging ∧ (s.setOutcome l o q).clock = s.clock ∧
    (s.setOutcome l o q).pending = s.pending := ⟨rfl, rfl, rfl, rfl, rfl⟩

@[simp] theorem setStaging_staging (s : State) (l : Lane) (a : StagingArea) :
    (s.setStaging l a).staging = s.staging.put l a := rfl

@[simp] theorem setStaging_kept (s : State) (l : Lane) (a : StagingArea) :
    (s.setStaging l a).toBlocks = s.toBlocks ∧ (s.setStaging l a).power = s.power ∧
    (s.setStaging l a).ports = s.ports ∧ (s.setStaging l a).clock = s.clock ∧
    (s.setStaging l a).pending = s.pending := ⟨rfl, rfl, rfl, rfl, rfl⟩

@[simp] theorem updateAttn_kept (s : State) :
    s.updateAttn.toBlocks = s.toBlocks ∧ s.updateAttn.power = s.power ∧ s.updateAttn.staging = s.staging ∧
    s.updateAttn.clock = s.clock ∧ s.updateAttn.pending = s.pending := ⟨rfl, rfl, rfl, rfl, rfl⟩

@[simp] theorem updateAttn_ports (s : State) :
    s.updateAttn.ports = Table.build (fun l => { s.ports.row l with attn := s.attnCondition l }) := rfl

@[simp] theorem timersLater_kept (s : State) :
    s.timersLater.toBlocks = s.toBlocks.timersLater ∧ s.timersLater.power = s.power ∧
    s.timersLater.ports = s.ports ∧ s.timersLater.clock = s.clock ∧ s.timersLater.pending = s.pending :=
  ⟨rfl, rfl, rfl, rfl, rfl⟩

@[simp] theorem resetTo_kept (s : State) (record : Option LockoutRecord) (power : Power) :
    (s.resetTo record power).power = power ∧ (s.resetTo record power).clock = s.clock ∧
    (s.resetTo record power).pending = s.pending ∧ (s.resetTo record power).lockoutRecord = record :=
  ⟨rfl, rfl, rfl, rfl⟩

@[simp] theorem resetTo_toBlocks (s : State) (record : Option LockoutRecord) (power : Power) :
    (s.resetTo record power).toBlocks = { Blocks.reset with lockoutRecord := record } := rfl

@[simp] theorem resetTo_staging (s : State) (record : Option LockoutRecord) (power : Power) :
    (s.resetTo record power).staging = Table.fill 4 StagingArea.reset := rfl

@[simp] theorem resetTo_ports (s : State) (record : Option LockoutRecord) (power : Power) :
    (s.resetTo record power).ports = s.ports.mapRows Port.afterReset := rfl

end State

end Sys2Proof.Machine
end

