-- ==== Sys2Proof/Laws/Blocks.lean ====
section
/-! SUPPORT. What each shared operation of the blocks can do, said once: the fields it leaves, and what it writes. -/

namespace Sys2Proof.Machine

/-! ## The notice unit -/

namespace NoticeUnit

theorem length_append (n : NoticeUnit) (stamp : BitVec 16) (body : NoticeBody) :
    (n.append stamp body).queue.length = n.queue.length + 1 := by simp [append]

theorem length_overflow (n : NoticeUnit) : n.overflow.queue.length = n.queue.length - 1 := by
  unfold overflow
  split <;> simp_all

/-- A posting keeps the queue within its 48 entries (09 R147, R152). -/
theorem length_post_le (n : NoticeUnit) (stamp : BitVec 16) (body : NoticeBody)
    (h : n.queue.length ≤ noticeDepth) : (n.post stamp body).queue.length ≤ noticeDepth := by
  unfold post
  split
  · rw [length_append]; omega
  · rw [length_append, length_overflow]
    unfold noticeDepth at *
    omega

theorem length_removePassed_le (n : NoticeUnit) : n.removePassed.queue.length ≤ n.queue.length := by
  unfold removePassed
  split <;> simp

theorem length_joinReader_le (n : NoticeUnit) (l : Lane) : (n.joinReader l).queue.length ≤ n.queue.length :=
  length_removePassed_le _

theorem length_leaveReader_le (n : NoticeUnit) (l : Lane) : (n.leaveReader l).queue.length ≤ n.queue.length :=
  length_removePassed_le _

theorem length_afterFetch_le (n : NoticeUnit) (l : Lane) (m : Nat) :
    (n.afterFetch l m).queue.length ≤ n.queue.length := by
  unfold afterFetch
  split
  · exact Nat.le_refl _
  · exact length_removePassed_le _

/-- A posting appends its entry at the end, with the next sequence number (09 R152). -/
theorem getLast_post (n : NoticeUnit) (stamp : BitVec 16) (body : NoticeBody) :
    (n.post stamp body).queue.getLast? = some ⟨n.next, stamp, body⟩ := by
  have hn : n.overflow.next = n.next := by unfold overflow; split <;> rfl
  unfold post
  split <;> simp [append, hn]

theorem next_post (n : NoticeUnit) (stamp : BitVec 16) (body : NoticeBody) :
    (n.post stamp body).next = n.next + 1 := by
  have hn : n.overflow.next = n.next := by unfold overflow; split <;> rfl
  unfold post
  split <;> simp [append, hn]

end NoticeUnit

namespace Blocks

/-! ## Fields left -/

@[simp] theorem postAll_kept (b : Blocks) (bodies : List NoticeBody) :
    (b.postAll bodies).device = b.device ∧ (b.postAll bodies).lockoutRecord = b.lockoutRecord ∧
    (b.postAll bodies).failn = b.failn ∧ (b.postAll bodies).vote = b.vote ∧ (b.postAll bodies).lanes = b.lanes ∧
    (b.postAll bodies).ballots = b.ballots ∧ (b.postAll bodies).active = b.active ∧
    (b.postAll bodies).pendingRecord = b.pendingRecord ∧ (b.postAll bodies).output = b.output := by
  unfold postAll
  induction bodies generalizing b with
  | nil => simp
  | cons x rest ih => simpa using ih (b.post x)

theorem length_postAll_le (b : Blocks) (bodies : List NoticeBody) (h : b.notices.queue.length ≤ noticeDepth) :
    (b.postAll bodies).notices.queue.length ≤ noticeDepth := by
  unfold postAll
  induction bodies generalizing b with
  | nil => exact h
  | cons x rest ih => exact ih (b.post x) (NoticeUnit.length_post_le _ _ _ h)

@[simp] theorem removeSupporter_kept (b : Blocks) (l : Lane) (p : Ballot → Bool) :
    (b.removeSupporter l p).device = b.device ∧ (b.removeSupporter l p).lockoutRecord = b.lockoutRecord ∧
    (b.removeSupporter l p).failn = b.failn ∧ (b.removeSupporter l p).vote = b.vote ∧
    (b.removeSupporter l p).lanes = b.lanes ∧ (b.removeSupporter l p).active = b.active ∧
    (b.removeSupporter l p).pendingRecord = b.pendingRecord ∧ (b.removeSupporter l p).output = b.output := by
  simp [removeSupporter]

@[simp] theorem discardBallots_kept (b : Blocks) :
    b.discardBallots.device = b.device ∧ b.discardBallots.lockoutRecord = b.lockoutRecord ∧
    b.discardBallots.failn = b.failn ∧ b.discardBallots.vote = b.vote ∧ b.discardBallots.lanes = b.lanes ∧
    b.discardBallots.ballots = [] ∧ b.discardBallots.active = b.active ∧
    b.discardBallots.pendingRecord = b.pendingRecord ∧ b.discardBallots.output = b.output := by
  simp [discardBallots]

@[simp] theorem vetoStep_kept (b : Blocks) (l : Lane) (new : LaneState) (k : Bool) :
    (b.vetoStep l new k).device = b.device ∧ (b.vetoStep l new k).lockoutRecord = b.lockoutRecord ∧
    (b.vetoStep l new k).failn = b.failn ∧ (b.vetoStep l new k).vote = b.vote ∧
    (b.vetoStep l new k).lanes = b.lanes ∧ (b.vetoStep l new k).ballots = b.ballots ∧
    (b.vetoStep l new k).active = b.active ∧ (b.vetoStep l new k).pendingRecord = b.pendingRecord ∧
    (b.vetoStep l new k).notices = b.notices := by
  unfold vetoStep
  split
  · split <;> simp
  · simp

@[simp] theorem readerStep_kept (b : Blocks) (l : Lane) (x y : LaneState) :
    (b.readerStep l x y).device = b.device ∧ (b.readerStep l x y).lockoutRecord = b.lockoutRecord ∧
    (b.readerStep l x y).failn = b.failn ∧ (b.readerStep l x y).vote = b.vote ∧
    (b.readerStep l x y).lanes = b.lanes ∧ (b.readerStep l x y).ballots = b.ballots ∧
    (b.readerStep l x y).active = b.active ∧ (b.readerStep l x y).pendingRecord = b.pendingRecord ∧
    (b.readerStep l x y).output = b.output := by
  unfold readerStep
  split
  · simp
  · split <;> simp

@[simp] theorem supporterStep_kept (b : Blocks) (l : Lane) (x : LaneState) :
    (b.supporterStep l x).device = b.device ∧ (b.supporterStep l x).lockoutRecord = b.lockoutRecord ∧
    (b.supporterStep l x).failn = b.failn ∧ (b.supporterStep l x).vote = b.vote ∧
    (b.supporterStep l x).lanes = b.lanes ∧ (b.supporterStep l x).active = b.active ∧
    (b.supporterStep l x).pendingRecord = b.pendingRecord ∧ (b.supporterStep l x).output = b.output := by
  unfold supporterStep
  split <;> simp

/-- A change of lane state writes the lane's record and touches vetoes, drives, readers, ballots and notices only
(04 R73). -/
@[simp] theorem moveLane_kept (b : Blocks) (l : Lane) (r : LaneRecord) (cause : MemberCause) (recompute : Bool) :
    (b.moveLane l r cause recompute).device = b.device ∧
    (b.moveLane l r cause recompute).lockoutRecord = b.lockoutRecord ∧
    (b.moveLane l r cause recompute).failn = b.failn ∧ (b.moveLane l r cause recompute).vote = b.vote ∧
    (b.moveLane l r cause recompute).lanes = b.lanes.put l r ∧
    (b.moveLane l r cause recompute).active = b.active ∧
    (b.moveLane l r cause recompute).pendingRecord = b.pendingRecord := by
  simp [moveLane]

@[simp] theorem moveLane_laneState (b : Blocks) (l m : Lane) (r : LaneRecord) (cause : MemberCause)
    (recompute : Bool) :
    (b.moveLane l r cause recompute).laneState m = if l = m then r.state else b.laneState m := by
  unfold laneState
  rw [(moveLane_kept b l r cause recompute).2.2.2.2.1, Table.row_put]
  split <;> rfl

@[simp] theorem admit_kept (b : Blocks) (l : Lane) :
    (b.admitLane l).device = b.device ∧ (b.admitLane l).lockoutRecord = b.lockoutRecord ∧ (b.admitLane l).failn = b.failn ∧
    (b.admitLane l).vote = b.vote ∧ (b.admitLane l).active = b.active ∧ (b.admitLane l).pendingRecord = b.pendingRecord := by
  unfold admitLane
  split <;> simp

theorem foldl_admit_kept (ls : List Lane) (b : Blocks) :
    (ls.foldl admitLane b).device = b.device ∧ (ls.foldl admitLane b).lockoutRecord = b.lockoutRecord ∧
    (ls.foldl admitLane b).failn = b.failn ∧ (ls.foldl admitLane b).vote = b.vote ∧
    (ls.foldl admitLane b).active = b.active ∧ (ls.foldl admitLane b).pendingRecord = b.pendingRecord := by
  induction ls generalizing b with
  | nil => simp
  | cons l rest ih => simpa using ih (b.admitLane l)

@[simp] theorem admitReady_kept (b : Blocks) :
    b.admitReady.device = b.device ∧ b.admitReady.lockoutRecord = b.lockoutRecord ∧ b.admitReady.failn = b.failn ∧
    b.admitReady.vote = b.vote ∧ b.admitReady.active = b.active ∧
    b.admitReady.pendingRecord = b.pendingRecord := foldl_admit_kept _ b

@[simp] theorem applyStrike_kept (b : Blocks) (e : Lane × Bool) :
    (b.applyStrike e).device = b.device ∧ (b.applyStrike e).lockoutRecord = b.lockoutRecord ∧
    (b.applyStrike e).failn = b.failn ∧ (b.applyStrike e).vote = b.vote ∧
    (b.applyStrike e).ballots = b.ballots ∧ (b.applyStrike e).active = b.active ∧
    (b.applyStrike e).pendingRecord = b.pendingRecord ∧ (b.applyStrike e).output = b.output ∧
    (b.applyStrike e).notices = b.notices := ⟨rfl, rfl, rfl, rfl, rfl, rfl, rfl, rfl, rfl⟩

theorem foldl_applyStrike_kept (es : List (Lane × Bool)) (b : Blocks) :
    (es.foldl applyStrike b).device = b.device ∧ (es.foldl applyStrike b).lockoutRecord = b.lockoutRecord ∧
    (es.foldl applyStrike b).failn = b.failn ∧ (es.foldl applyStrike b).vote = b.vote ∧
    (es.foldl applyStrike b).ballots = b.ballots ∧ (es.foldl applyStrike b).active = b.active ∧
    (es.foldl applyStrike b).pendingRecord = b.pendingRecord ∧
    (es.foldl applyStrike b).output = b.output ∧ (es.foldl applyStrike b).notices = b.notices := by
  induction es generalizing b with
  | nil => simp
  | cons e rest ih => simpa using ih (b.applyStrike e)

@[simp] theorem excludeAtThreshold_kept (b : Blocks) (l : Lane) :
    (b.excludeAtThreshold l).device = b.device ∧ (b.excludeAtThreshold l).lockoutRecord = b.lockoutRecord ∧
    (b.excludeAtThreshold l).failn = b.failn ∧ (b.excludeAtThreshold l).vote = b.vote ∧
    (b.excludeAtThreshold l).active = b.active ∧
    (b.excludeAtThreshold l).pendingRecord = b.pendingRecord := by
  unfold excludeAtThreshold
  split <;> simp

theorem foldl_excludeAtThreshold_kept (ls : List Lane) (b : Blocks) :
    (ls.foldl excludeAtThreshold b).device = b.device ∧
    (ls.foldl excludeAtThreshold b).lockoutRecord = b.lockoutRecord ∧
    (ls.foldl excludeAtThreshold b).failn = b.failn ∧ (ls.foldl excludeAtThreshold b).vote = b.vote ∧
    (ls.foldl excludeAtThreshold b).active = b.active ∧
    (ls.foldl excludeAtThreshold b).pendingRecord = b.pendingRecord := by
  induction ls generalizing b with
  | nil => simp
  | cons l rest ih => simpa using ih (b.excludeAtThreshold l)

/-- Taking the dissent report touches lanes, vetoes, drives, readers, ballots and notices only (04 R67). -/
@[simp] theorem applyReport_kept (b : Blocks) (report : List (Lane × Bool)) :
    (b.applyReport report).device = b.device ∧ (b.applyReport report).lockoutRecord = b.lockoutRecord ∧
    (b.applyReport report).failn = b.failn ∧ (b.applyReport report).vote = b.vote ∧
    (b.applyReport report).active = b.active ∧ (b.applyReport report).pendingRecord = b.pendingRecord := by
  have h1 := foldl_applyStrike_kept report b
  have h2 := foldl_excludeAtThreshold_kept (report.map Prod.fst) (report.foldl applyStrike b)
  simp only [applyReport, admitReady_kept]
  refine ⟨?_, ?_, ?_, ?_, ?_, ?_⟩
  · rw [h2.1, h1.1]
  · rw [h2.2.1, h1.2.1]
  · rw [h2.2.2.1, h1.2.2.1]
  · rw [h2.2.2.2.1, h1.2.2.2.1]
  · rw [h2.2.2.2.2.1, h1.2.2.2.2.2.1]
  · rw [h2.2.2.2.2.2, h1.2.2.2.2.2.2.1]

@[simp] theorem discardRound_kept (b : Blocks) :
    b.discardRound.device = b.device ∧ b.discardRound.lockoutRecord = b.lockoutRecord ∧
    b.discardRound.failn = b.failn ∧ b.discardRound.lanes = b.lanes ∧ b.discardRound.ballots = b.ballots ∧
    b.discardRound.active = b.active ∧ b.discardRound.pendingRecord = b.pendingRecord ∧
    b.discardRound.output = b.output ∧ b.discardRound.notices = b.notices := by
  unfold discardRound
  split <;> simp

/-- No round is open after a discard (02 R39). -/
@[simp] theorem discardRound_openRound (b : Blocks) : b.discardRound.vote.openRound = .none := by
  unfold discardRound
  split <;> simp_all

@[simp] theorem storeProposal_kept (b : Blocks) (l : Lane) (entries : List (Channel × Nat)) :
    (b.storeProposal l entries).device = b.device ∧
    (b.storeProposal l entries).lockoutRecord = b.lockoutRecord ∧
    (b.storeProposal l entries).failn = b.failn ∧ (b.storeProposal l entries).lanes = b.lanes ∧
    (b.storeProposal l entries).ballots = b.ballots ∧ (b.storeProposal l entries).active = b.active ∧
    (b.storeProposal l entries).pendingRecord = b.pendingRecord ∧
    (b.storeProposal l entries).output = b.output ∧
    (b.storeProposal l entries).notices = b.notices := by
  unfold storeProposal
  split <;> simp

@[simp] theorem failChannel_kept (b : Blocks) (c : Channel) :
    (b.failChannel c).device = b.device ∧ (b.failChannel c).lockoutRecord = b.lockoutRecord ∧
    (b.failChannel c).vote = b.vote ∧ (b.failChannel c).lanes = b.lanes ∧
    (b.failChannel c).ballots = b.ballots ∧ (b.failChannel c).active = b.active ∧
    (b.failChannel c).pendingRecord = b.pendingRecord := by
  unfold failChannel
  simp only
  split <;> simp

@[simp] theorem clearFault_kept (b : Blocks) (c : Channel) :
    (b.clearFault c).device = b.device ∧ (b.clearFault c).lockoutRecord = b.lockoutRecord ∧
    (b.clearFault c).vote = b.vote ∧ (b.clearFault c).lanes = b.lanes ∧ (b.clearFault c).ballots = b.ballots ∧
    (b.clearFault c).active = b.active ∧ (b.clearFault c).pendingRecord = b.pendingRecord := by
  simp [clearFault]

@[simp] theorem settleExpires_kept (b : Blocks) (c : Channel) :
    (b.settleExpires c).device = b.device ∧ (b.settleExpires c).lockoutRecord = b.lockoutRecord ∧
    (b.settleExpires c).vote = b.vote ∧ (b.settleExpires c).lanes = b.lanes ∧
    (b.settleExpires c).ballots = b.ballots ∧ (b.settleExpires c).active = b.active ∧
    (b.settleExpires c).pendingRecord = b.pendingRecord := by
  unfold settleExpires
  simp only
  split <;> simp

@[simp] theorem mismatchExpires_kept (b : Blocks) (c : Channel) :
    (b.mismatchExpires c).device = b.device ∧ (b.mismatchExpires c).lockoutRecord = b.lockoutRecord ∧
    (b.mismatchExpires c).vote = b.vote ∧ (b.mismatchExpires c).lanes = b.lanes ∧
    (b.mismatchExpires c).ballots = b.ballots ∧ (b.mismatchExpires c).active = b.active ∧
    (b.mismatchExpires c).pendingRecord = b.pendingRecord := by
  simp [mismatchExpires]

@[simp] theorem switchLane_kept (b : Blocks) (l : Lane) :
    (b.switchLane l).device = b.device ∧ (b.switchLane l).lockoutRecord = b.lockoutRecord ∧
    (b.switchLane l).failn = b.failn ∧ (b.switchLane l).vote = b.vote ∧
    (b.switchLane l).active = b.active ∧ (b.switchLane l).pendingRecord = b.pendingRecord := by
  unfold switchLane
  simp only
  split
  · simp
  · split
    · simp
    · split <;> simp

theorem foldl_switchLane_kept (ls : List Lane) (b : Blocks) :
    (ls.foldl switchLane b).device = b.device ∧ (ls.foldl switchLane b).lockoutRecord = b.lockoutRecord ∧
    (ls.foldl switchLane b).failn = b.failn ∧ (ls.foldl switchLane b).vote = b.vote ∧
    (ls.foldl switchLane b).active = b.active ∧
    (ls.foldl switchLane b).pendingRecord = b.pendingRecord := by
  induction ls generalizing b with
  | nil => simp
  | cons l rest ih => simpa using ih (b.switchLane l)

@[simp] theorem switchLanes_kept (b : Blocks) :
    b.switchLanes.device = b.device ∧ b.switchLanes.lockoutRecord = b.lockoutRecord ∧
    b.switchLanes.failn = b.failn ∧ b.switchLanes.vote = b.vote ∧ b.switchLanes.active = b.active ∧
    b.switchLanes.pendingRecord = b.pendingRecord := by
  simpa [switchLanes] using foldl_switchLane_kept (List.finRange 4) b

theorem failnCondition_updateFailn (b : Blocks) : b.updateFailn.failnCondition = b.failnCondition := rfl

/-- What a switch leaves and installs (07 R124). -/
@[simp] theorem switchTo_kept (b : Blocks) (p : PendingRecord) :
    (b.switchTo p).device = b.device ∧ (b.switchTo p).lockoutRecord = b.lockoutRecord ∧
    (b.switchTo p).active = some ⟨decodeConfig p.image, p.digest⟩ ∧
    (b.switchTo p).pendingRecord = none ∧ (b.switchTo p).vote.openRound = b.vote.openRound ∧
    (b.switchTo p).vote.nextRound = b.vote.nextRound ∧ (b.switchTo p).vote.deadline = b.vote.deadline := by
  simp [switchTo]

/-- FAILN is re-evaluated last in a switch (07 R124 step 7). -/
theorem switchTo_failn (b : Blocks) (p : PendingRecord) :
    (b.switchTo p).failn = (b.switchTo p).failnCondition := by
  unfold switchTo
  rw [updateFailn_failn, failnCondition_updateFailn]

@[simp] theorem safeHoldSteps_kept (b : Blocks) :
    b.safeHoldSteps.device = .safeHold ∧ b.safeHoldSteps.lockoutRecord = b.lockoutRecord ∧
    b.safeHoldSteps.failn = b.failn ∧ b.safeHoldSteps.active = b.active ∧
    b.safeHoldSteps.pendingRecord = b.pendingRecord ∧
    b.safeHoldSteps.vote.openRound = .none := by
  simp [safeHoldSteps]

@[simp] theorem enterRunning_kept (b : Blocks) :
    b.enterRunning.device = .running ∧ b.enterRunning.lockoutRecord = b.lockoutRecord ∧
    b.enterRunning.failn = b.failn ∧ b.enterRunning.ballots = b.ballots ∧ b.enterRunning.active = b.active ∧
    b.enterRunning.pendingRecord = b.pendingRecord ∧ b.enterRunning.vote.openRound = .idle := by
  simp [enterRunning]

@[simp] theorem resume_kept (b : Blocks) :
    b.resume.device = .running ∧ b.resume.lockoutRecord = b.lockoutRecord ∧ b.resume.failn = b.failn ∧
    b.resume.lanes = b.lanes ∧ b.resume.ballots = b.ballots ∧ b.resume.active = b.active ∧
    b.resume.pendingRecord = b.pendingRecord ∧ b.resume.vote.openRound = .idle := by
  simp [resume]

/-- LOCKOUT entry (05 R87). -/
@[simp] theorem enterLockout_kept (b : Blocks) (cause : LockoutCause) :
    (b.enterLockout cause).device = .lockout ∧
    (b.enterLockout cause).lockoutRecord = some ⟨cause, b.vote.nextRound, b.device⟩ ∧
    (b.enterLockout cause).vote = { b.vote with openRound := .none, deadline := none } ∧
    (b.enterLockout cause).lanes = b.lanes ∧ (b.enterLockout cause).ballots = [] ∧
    (b.enterLockout cause).active = b.active ∧ (b.enterLockout cause).pendingRecord = none := by
  simp [enterLockout]

/-- FAILN is asserted at LOCKOUT entry (05 R87 step 7). -/
theorem enterLockout_failn (b : Blocks) (cause : LockoutCause) : (b.enterLockout cause).failn = true := by
  simp [enterLockout, failnCondition]

/-! ## Drives (01 R8) -/

theorem driveOf_congr {b d : Blocks} (h1 : b.active = d.active) (h2 : b.device = d.device) (h3 : b.vote = d.vote)
    (h4 : b.output = d.output) (c : Channel) : b.driveOf c = d.driveOf c := by
  simp only [driveOf, channelType_congr h1, fallback_congr h1, fault, channelOutput_congr h4, vetoed_congr h4, agreed,
    h2, h3]
  cases d.channelType c <;> rfl

/-- After a change of drive the drive is the one asked for. -/
@[simp] theorem driveTo_drive (o : ChannelOutput) (d : Drive) (t : Nat) : (o.driveTo d t).drive = d := by
  unfold ChannelOutput.driveTo
  split <;> simp_all

@[simp] theorem driveTo_fault (o : ChannelOutput) (d : Drive) (t : Nat) : (o.driveTo d t).fault = o.fault := by
  unfold ChannelOutput.driveTo
  split <;> rfl

@[simp] theorem driveTo_readback (o : ChannelOutput) (d : Drive) (t : Nat) :
    (o.driveTo d t).readback = o.readback := by
  unfold ChannelOutput.driveTo
  split <;> rfl

/-- A line that shows its drive still shows it after a change of drive (08 R133). -/
theorem driveTo_line (o : ChannelOutput) (d : Drive) (t : Nat) (h : o.line = o.drive.line) :
    (o.driveTo d t).line = d.line := by
  unfold ChannelOutput.driveTo
  split
  · rename_i e; rw [← e]; exact h
  · rfl

@[simp] theorem superviseOutput_kept (b : Blocks) (c : Channel) (o : ChannelOutput) :
    (b.superviseOutput c o).drive = o.drive ∧ (b.superviseOutput c o).line = o.line ∧
    (b.superviseOutput c o).readback = o.readback ∧ (b.superviseOutput c o).fault = o.fault ∧
    (b.superviseOutput c o).settle = o.settle := ⟨rfl, rfl, rfl, rfl, rfl⟩

@[simp] theorem refreshedOutput_drive (b : Blocks) (c : Channel) : (b.refreshedOutput c).drive = b.driveOf c := by
  simp [refreshedOutput]

@[simp] theorem refreshedOutput_fault (b : Blocks) (c : Channel) : (b.refreshedOutput c).fault = b.fault c := by
  simp [refreshedOutput, fault]

@[simp] theorem fault_refreshOutputs (b : Blocks) (c : Channel) : b.refreshOutputs.fault c = b.fault c := by
  simp [fault, channelOutput]

/-- A recomputation changes no drive law's input: afterwards every channel is driven as 01 R8 says. -/
theorem drive_refreshOutputs (b : Blocks) (c : Channel) :
    (b.refreshOutputs.channelOutput c).drive = b.refreshOutputs.driveOf c := by
  have hv : b.refreshOutputs.vetoed c = b.vetoed c := rfl
  have hd : b.refreshOutputs.driveOf c = b.driveOf c := by
    simp only [driveOf, fault_refreshOutputs, hv]
    rfl
  rw [hd]
  simp [channelOutput]

end Blocks

end Sys2Proof.Machine
end

