-- ==== Sys2Proof/Laws/Memory.lean ====
section
/-! SUPPORT. The staging images: the canonical form is kept by every operation, and a byte reads as last written. -/

namespace Sys2Proof.Machine

theorem Memory.wf_nil : Memory.wf [] := ⟨List.Pairwise.nil, by simp⟩

theorem Memory.wf_tail {c : Host.Cell} {m : Memory} (h : Memory.wf (c :: m)) : Memory.wf m :=
  ⟨(List.pairwise_cons.mp h.1).2, fun x hx => h.2 x (List.mem_cons_of_mem _ hx)⟩

/-- Below the first listed address everything reads 00h. -/
theorem Memory.read_of_all_gt (m : Memory) (a : Nat) (h : ∀ c ∈ m, a < c.1) : Memory.read m a = 0#8 := by
  cases m with
  | nil => rfl
  | cons c rest =>
    obtain ⟨k, b⟩ := c
    have hk : a < k := h (k, b) (by simp)
    simp [Memory.read, Nat.ne_of_gt hk, hk]

/-- The addresses a write leaves listed are the old ones and the one written. -/
theorem Memory.mem_write (m : Memory) (a : Nat) (v : Byte) (c : Host.Cell) (h : c ∈ Memory.write m a v) :
    c ∈ m ∨ (c = (a, v) ∧ v ≠ 0#8) := by
  induction m with
  | nil =>
    unfold Memory.write at h
    split at h <;> simp_all
  | cons x rest ih =>
    obtain ⟨k, b⟩ := x
    unfold Memory.write at h
    split at h
    · simp only [List.mem_cons] at h ⊢
      rcases h with h | h
      · exact .inl (.inl h)
      · rcases ih h with h | h
        · exact .inl (.inr h)
        · exact .inr h
    · simp only at h
      split at h <;> split at h <;> simp_all <;> grind

/-- A write keeps the canonical form. -/
theorem Memory.wf_write (m : Memory) (a : Nat) (v : Byte) (h : Memory.wf m) : Memory.wf (Memory.write m a v) := by
  refine ⟨?_, ?_⟩
  · induction m with
    | nil => unfold Memory.write; split <;> simp
    | cons x rest ih =>
      obtain ⟨k, b⟩ := x
      have hp := List.pairwise_cons.mp h.1
      unfold Memory.write
      split
      · rename_i hlt
        refine List.pairwise_cons.mpr ⟨?_, ih (Memory.wf_tail h)⟩
        intro c hc
        rcases Memory.mem_write rest a v c hc with h' | h'
        · exact hp.1 c h'
        · rw [h'.1]; exact hlt
      · rename_i hge
        have hlater : List.Pairwise (fun x y : Host.Cell => x.1 < y.1) (if k = a then rest else (k, b) :: rest) := by
          split
          · exact hp.2
          · exact h.1
        have hgt : ∀ c ∈ (if k = a then rest else (k, b) :: rest), a < c.1 := by
          split
          · rename_i e
            intro c hc
            have := hp.1 c hc
            simp only at this
            omega
          · intro c hc
            simp only [List.mem_cons] at hc
            rcases hc with hc | hc
            · subst hc; simp only; omega
            · have := hp.1 c hc
              simp only at this
              omega
        simp only
        split
        · exact hlater
        · exact List.pairwise_cons.mpr ⟨hgt, hlater⟩
  · intro c hc
    rcases Memory.mem_write m a v c hc with h' | h'
    · exact h.2 c h'
    · rw [h'.1]; exact h'.2

/-- Every run of writes keeps the canonical form. -/
theorem Memory.wf_writeBytes (bs : List Byte) (m : Memory) (a : Nat) (h : Memory.wf m) :
    Memory.wf (Memory.writeBytes m a bs) := by
  induction bs generalizing m a with
  | nil => exact h
  | cons b bs ih => exact ih _ _ (Memory.wf_write m a b h)

/-- A byte after a write: the byte written at its address, the old byte elsewhere. -/
theorem Memory.read_write (m : Memory) (a : Nat) (v : Byte) (h : Memory.wf m) (x : Nat) :
    Memory.read (Memory.write m a v) x = if x = a then v else Memory.read m x := by
  induction m with
  | nil =>
    unfold Memory.write
    split <;> simp [Memory.read] <;> grind
  | cons c rest ih =>
    obtain ⟨k, b⟩ := c
    have hp := List.pairwise_cons.mp h.1
    have hrest : ∀ y, (∀ c ∈ rest, y < c.1) → Memory.read rest y = 0#8 := fun y => Memory.read_of_all_gt rest y
    have hk : ∀ y, y ≤ k → Memory.read rest y = 0#8 := by
      intro y hy
      apply hrest
      intro c hc
      have := hp.1 c hc
      simp only at this
      omega
    unfold Memory.write
    split
    · rename_i hlt
      simp only [Memory.read, ih (Memory.wf_tail h)]
      grind
    · rename_i hge
      by_cases e : k = a
      · subst e
        by_cases hv : v = 0#8
        · subst hv
          simp only [if_true]
          by_cases hx : x = k
          · subst hx; simp [hk x (Nat.le_refl x)]
          · by_cases hlt : x < k
            · simp [Memory.read, Ne.symm hx, hx, hk x (Nat.le_of_lt hlt), hlt]
            · simp [Memory.read, hx, hlt, Ne.symm hx]
        · simp only [if_true, if_neg hv, Memory.read]
          grind
      · by_cases hv : v = 0#8
        · subst hv
          simp only [e, if_false, if_true]
          by_cases hx : x = a
          · subst hx
            have : x < k := by omega
            simp [Memory.read, e, this]
          · simp [hx]
        · simp only [if_neg e, if_neg hv, Memory.read]
          grind

/-- A byte after a run of writes: the byte of the run at its place, the old byte outside it. -/
theorem Memory.read_writeBytes (bs : List Byte) (m : Memory) (a : Nat) (h : Memory.wf m) (x : Nat) :
    Memory.read (Memory.writeBytes m a bs) x
      = if a ≤ x ∧ x < a + bs.length then bs.getD (x - a) 0#8 else Memory.read m x := by
  induction bs generalizing m a with
  | nil => simp only [Memory.writeBytes, List.length_nil, Nat.add_zero]; split <;> first | (exfalso; omega) | rfl
  | cons b bs ih =>
    simp only [Memory.writeBytes, ih _ _ (Memory.wf_write m a b h), Memory.read_write m a b h,
      List.length_cons]
    by_cases hx : x = a
    · subst hx
      have h1 : ¬ (x + 1 ≤ x ∧ x < x + 1 + bs.length) := by omega
      have h2 : x ≤ x ∧ x < x + (bs.length + 1) := by omega
      rw [if_neg h1, if_pos h2]
      simp
    · by_cases hin : a + 1 ≤ x ∧ x < a + 1 + bs.length
      · have h2 : a ≤ x ∧ x < a + (bs.length + 1) := by omega
        rw [if_pos hin, if_pos h2]
        have : x - a = (x - (a + 1)) + 1 := by omega
        rw [this]
        simp
      · have h2 : ¬ (a ≤ x ∧ x < a + (bs.length + 1)) := by omega
        rw [if_neg hin, if_neg h2]
        simp [hx]

/-- The bytes of a range number as many as asked for. -/
@[simp] theorem Memory.length_bytes (m : Memory) (a n : Nat) : (Memory.bytes m a n).length = n := by
  simp [Memory.bytes]

theorem StagingArea.wf_written (a : StagingArea) (offset : Nat) (data : List Byte) (h : Memory.wf a.image) :
    Memory.wf (a.written offset data).image := Memory.wf_writeBytes data a.image offset h

end Sys2Proof.Machine
end

