-- ==== Sys2Proof/Laws/PerInstr.lean ====
section
/-! SUPPORT. Statements about every command as syntax, one lemma for each constructor. -/

namespace Sys2Proof.Laws.FrameForm

/-- Whether a command is one of the fifteen requests or no request: all but the unknown kind. -/
def hasNamedKind : Instr → Bool
  | .unknownRequestKind _ _ _ _ => false
  | _ => true

/-- A well-formed command that stands for a request frame has a payload the length field can carry (10 R164), and its
kind code is one of the fifteen unless it is the unknown kind, whose code is none of them (10 R172). -/
def Statement (i : Instr) : Prop :=
  i.wellFormed = true → ∀ f, i.frame? = some f →
    f.payload.length ≤ 256 ∧ namesRequest f.kind = hasNamedKind i

/-- A command that stands for no frame satisfies the statement. -/
theorem of_noFrame {i : Instr} (h : i.frame? = none) : Statement i := by
  intro _ f hf
  rw [h] at hf
  cases hf

theorem powerOnReset : Statement .powerOnReset := of_noFrame rfl
theorem brownOut : Statement .brownOut := of_noFrame rfl
theorem powerOnResetEnd : Statement .powerOnResetEnd := of_noFrame rfl
theorem rstnAssert : Statement .rstnAssert := of_noFrame rfl
theorem rstnRelease : Statement .rstnRelease := of_noFrame rfl
theorem chipSelectAssert (lane : Lane) : Statement (.chipSelectAssert lane) := of_noFrame rfl
theorem chipSelectRelease (lane : Lane) (shiftedIn : List Byte) (evalB : Option Evaluation) :
    Statement (.chipSelectRelease lane shiftedIn evalB) := of_noFrame rfl
theorem roundDeadlineExpiry (evalB : Option Evaluation) : Statement (.roundDeadlineExpiry evalB) := of_noFrame rfl
theorem leaseExpiry (lane : Lane) (evalB : Option Evaluation) : Statement (.leaseExpiry lane evalB) := of_noFrame rfl
theorem graceExpiry (lane : Lane) : Statement (.graceExpiry lane) := of_noFrame rfl
theorem ballotLifetimeExpiry (slot : BallotSlot) : Statement (.ballotLifetimeExpiry slot) := of_noFrame rfl
theorem sealCompletion (lane : Lane) : Statement (.sealCompletion lane) := of_noFrame rfl
theorem readbackLevelChange (channel : Channel) (level : ReadbackLevel) :
    Statement (.readbackLevelChange channel level) := of_noFrame rfl
theorem settleExpiry (channel : Channel) : Statement (.settleExpiry channel) := of_noFrame rfl
theorem mismatchTimerExpiry (channel : Channel) : Statement (.mismatchTimerExpiry channel) := of_noFrame rfl
theorem scrubRecheck (record : ProtectedRecord) (agrees : Bool) : Statement (.scrubRecheck record agrees) :=
  of_noFrame rfl

/-- The payload of a well-formed command that stands for a frame fits. -/
theorem payload_le {i : Instr} {f : RequestFrame} (hw : i.wellFormed = true) (hf : i.frame? = some f) :
    f.payload.length ≤ 256 := by
  simp only [Instr.wellFormed, Instr.payloadFits, hf, Bool.and_eq_true, decide_eq_true_eq] at hw
  exact hw.1

/-- A request whose kind code is one of the fifteen satisfies the statement. -/
theorem of_frame {i : Instr} {k q : Byte} {p : List Byte} (hf : i.frame? = some ⟨k, q, p⟩)
    (hk : namesRequest k = hasNamedKind i) : Statement i := by
  intro hw f h
  rw [hf] at h
  cases h
  exact ⟨payload_le hw hf, hk⟩

theorem join (lane : Lane) (seq : Byte) (payload : List Byte) : Statement (.join lane seq payload) :=
  of_frame rfl rfl
theorem leave (lane : Lane) (seq : Byte) (payload : List Byte) (evalB : Option Evaluation) :
    Statement (.leave lane seq payload evalB) := of_frame rfl rfl
theorem keepalive (lane : Lane) (seq : Byte) (payload : List Byte) : Statement (.keepalive lane seq payload) :=
  of_frame rfl rfl
theorem propose (lane : Lane) (seq : Byte) (payload : List Byte) (evalB : Option Evaluation) :
    Statement (.propose lane seq payload evalB) := of_frame rfl rfl
theorem veto (lane : Lane) (seq : Byte) (payload : List Byte) : Statement (.veto lane seq payload) :=
  of_frame rfl rfl
theorem support (lane : Lane) (seq : Byte) (payload : List Byte) : Statement (.support lane seq payload) :=
  of_frame rfl rfl
theorem stageWrite (lane : Lane) (seq : Byte) (payload : List Byte) : Statement (.stageWrite lane seq payload) :=
  of_frame rfl rfl
theorem stageSeal (lane : Lane) (seq : Byte) (payload : List Byte) : Statement (.stageSeal lane seq payload) :=
  of_frame rfl rfl
theorem stageOpen (lane : Lane) (seq : Byte) (payload : List Byte) : Statement (.stageOpen lane seq payload) :=
  of_frame rfl rfl
theorem readStaging (lane : Lane) (seq : Byte) (payload : List Byte) : Statement (.readStaging lane seq payload) :=
  of_frame rfl rfl
theorem fetchNotices (lane : Lane) (seq : Byte) (payload : List Byte) :
    Statement (.fetchNotices lane seq payload) := of_frame rfl rfl
theorem readStatus (lane : Lane) (seq : Byte) (payload : List Byte) : Statement (.readStatus lane seq payload) :=
  of_frame rfl rfl
theorem readChannels (lane : Lane) (seq : Byte) (payload : List Byte) :
    Statement (.readChannels lane seq payload) := of_frame rfl rfl
theorem readBallots (lane : Lane) (seq : Byte) (payload : List Byte) : Statement (.readBallots lane seq payload) :=
  of_frame rfl rfl
theorem linkReset (lane : Lane) (seq : Byte) (payload : List Byte) : Statement (.linkReset lane seq payload) :=
  of_frame rfl rfl

theorem unknownRequestKind (lane : Lane) (kind seq : Byte) (payload : List Byte) :
    Statement (.unknownRequestKind lane kind seq payload) := by
  intro hw f hf
  have hf' : f = ⟨kind, seq, payload⟩ := by
    simp only [Instr.frame?, Option.some.injEq] at hf
    exact hf.symm
  have hle := payload_le hw hf
  subst hf'
  refine ⟨hle, ?_⟩
  simp only [Instr.wellFormed, Instr.kindIsItsOwn, Bool.and_eq_true, Bool.not_eq_true'] at hw
  exact hw.2

end Sys2Proof.Laws.FrameForm
end

