-- ==== Sys2Proof/Laws/Ports.lean ====
section
/-! SUPPORT. The lane link ports: when a request is taken, what the take does, what a refused frame does, and what none of
them can touch. -/

namespace Sys2Proof.Machine

/-- Check 3 and check 4 passed (10 R165 to R167). -/
theorem Port.check_taken_iff (p : Port) (seq : Byte) :
    p.check seq = .taken ↔ seq = p.expected ∧ p.queue.length < responseDepth := by
  unfold Port.check
  by_cases h : seq = p.expected
  · by_cases hq : p.queue.length < responseDepth <;> simp [h, hq]
  · simp [h]
    split <;> simp

theorem Port.check_ne_none (p : Port) (seq : Byte) : p.check seq ≠ .none := by
  unfold Port.check
  by_cases h : seq = p.expected
  · by_cases hq : p.queue.length < responseDepth <;> simp [h, hq]
  · simp [h]
    split <;> simp

namespace State

/-! ## receive -/

/-- In reset a frame is discarded without a port outcome (10 R177). -/
theorem receive_inReset (s : State) (l : Lane) (k q : Byte) (p : List Byte) (h : Handler) (hr : s.inReset = true) :
    s.receive l k q p h = s := by simp [receive, hr]

/-- A request that passes every check is taken. -/
theorem receive_taken (s : State) (l : Lane) (k q : Byte) (p : List Byte) (h : Handler) (hr : s.inReset = false)
    (hp : p.length ≤ 256) (hc : (s.ports.row l).check q = .taken) :
    s.receive l k q p h = s.takeRequest l k q h := by
  have : ¬ 256 < p.length := by omega
  simp [receive, hr, this, hc]

/-- A request that fails check 3 or 4 sets the port outcome and changes nothing else (10 R165). -/
theorem receive_refused (s : State) (l : Lane) (k q : Byte) (p : List Byte) (h : Handler) (hr : s.inReset = false)
    (hp : p.length ≤ 256) (hc : (s.ports.row l).check q ≠ .taken) :
    s.receive l k q p h = s.setOutcome l ((s.ports.row l).check q) (some q) := by
  have : ¬ 256 < p.length := by omega
  simp [receive, hr, this, hc]

/-- The four ways a frame at a port ends. -/
theorem receive_cases (s : State) (l : Lane) (k q : Byte) (p : List Byte) (h : Handler) :
    s.receive l k q p h = s ∨ (∃ o, s.receive l k q p h = s.setOutcome l o (some q)) ∨
      s.receive l k q p h = s.takeRequest l k q h := by
  unfold receive
  split
  · exact .inl rfl
  · split
    · exact .inr (.inl ⟨_, rfl⟩)
    · split
      · exact .inr (.inr rfl)
      · exact .inr (.inl ⟨_, rfl⟩)

/-! ## The take -/

/-- What a take leaves: the blocks and staging areas are the owner's, power, clock and the command queue stand. -/
@[simp] theorem takeRequest_kept (s : State) (l : Lane) (k q : Byte) (h : Handler) :
    (s.takeRequest l k q h).toBlocks = (h s.toBlocks s.staging).blocks ∧
    (s.takeRequest l k q h).staging = (h s.toBlocks s.staging).staging ∧
    (s.takeRequest l k q h).power = s.power ∧ (s.takeRequest l k q h).clock = s.clock ∧
    (s.takeRequest l k q h).pending = s.pending := ⟨rfl, rfl, rfl, rfl, rfl⟩

/-- The slot a take appends stands at the end of the queue (10 R168). -/
theorem takeRequest_queue (s : State) (l : Lane) (k q : Byte) (h : Handler) :
    ((s.takeRequest l k q h).ports.row l).queue
      = (s.ports.row l).queue ++ [(s.takeRequest l k q h).slotFor l k q (h s.toBlocks s.staging).answer] := by
  simp [takeRequest, Port.taken, slotFor]
  cases (h s.toBlocks s.staging).answer <;> rfl

/-- The rest of the port after a take (10 R165, R166). -/
theorem takeRequest_port (s : State) (l : Lane) (k q : Byte) (h : Handler) :
    ((s.takeRequest l k q h).ports.row l).expected = (s.ports.row l).expected + 1 ∧
    ((s.takeRequest l k q h).ports.row l).outcome = .taken ∧
    ((s.takeRequest l k q h).ports.row l).outcomeSeq = some q ∧
    ((s.takeRequest l k q h).ports.row l).transaction = (s.ports.row l).transaction := by
  simp [takeRequest, Port.taken]

/-- A take on one link leaves the port of another as it was, ATTN apart (10, opening paragraphs). -/
theorem takeRequest_other (s : State) (l m : Lane) (k q : Byte) (h : Handler) (hm : l ≠ m) :
    (s.takeRequest l k q h).ports.row m
      = { s.ports.row m with attn := (s.takeRequest l k q h).attnCondition m } := by
  simp [takeRequest, Table.row_put_of_ne _ hm, attnCondition, inReset]

/-! ## ATTN -/

theorem attnCondition_updateAttn (s : State) (l : Lane) : s.updateAttn.attnCondition l = s.attnCondition l := by
  simp [attnCondition, inReset]

/-- After a re-evaluation every ATTN line is as 10 R170 gives. -/
@[simp] theorem updateAttn_attn (s : State) (l : Lane) :
    (s.updateAttn.ports.row l).attn = s.updateAttn.attnCondition l := by
  rw [attnCondition_updateAttn]
  simp

@[simp] theorem updateAttn_queue (s : State) (l : Lane) :
    (s.updateAttn.ports.row l).queue = (s.ports.row l).queue := by simp

/-! ## LINK_RESET, transactions -/

@[simp] theorem takeLinkReset_kept (s : State) (l : Lane) (k q : Byte) :
    (s.takeLinkReset l k q).toBlocks = s.toBlocks ∧ (s.takeLinkReset l k q).staging = s.staging ∧
    (s.takeLinkReset l k q).power = s.power ∧ (s.takeLinkReset l k q).clock = s.clock ∧
    (s.takeLinkReset l k q).pending = s.pending := ⟨rfl, rfl, rfl, rfl, rfl⟩

@[simp] theorem settleDelivery_kept (s : State) (l : Lane) (d : Bool) :
    (s.settleDelivery l d).toBlocks = s.toBlocks ∧ (s.settleDelivery l d).staging = s.staging ∧
    (s.settleDelivery l d).power = s.power ∧ (s.settleDelivery l d).clock = s.clock ∧
    (s.settleDelivery l d).pending = s.pending := ⟨rfl, rfl, rfl, rfl, rfl⟩

@[simp] theorem completeSeal_kept (s : State) (l : Lane) :
    (s.completeSeal l).toBlocks = s.toBlocks ∧ (s.completeSeal l).power = s.power ∧
    (s.completeSeal l).staging = s.staging.put l (s.staging.row l).completed ∧
    (s.completeSeal l).clock = s.clock ∧ (s.completeSeal l).pending = s.pending := ⟨rfl, rfl, rfl, rfl, rfl⟩

/-- Filling a reservation keeps the length of the queue (10 R168). -/
theorem length_fillReservation (fill : Byte → Byte → Response) (qs : List ResponseSlot) :
    (fillReservation fill qs).length = qs.length := by
  induction qs with
  | nil => rfl
  | cons x rest ih => cases x <;> simp [fillReservation, ih]

/-! ## Expiry -/

/-- An expiry cannot touch the reset condition, the clock or the command queue. -/
theorem expire_kept (s : State) (e : Option Evaluation) (t : TimerName) :
    (s.expire e t).power = s.power ∧ (s.expire e t).clock = s.clock ∧ (s.expire e t).pending = s.pending := by
  cases t <;> simp only [expire] <;> (try split) <;> exact ⟨rfl, rfl, rfl⟩

theorem expireNow_kept (s : State) (t : TimerName) (e : Option Evaluation) :
    (s.expireNow t e).power = s.power ∧ (s.expireNow t e).clock = s.clock ∧
    (s.expireNow t e).pending = s.pending := by
  unfold expireNow
  split
  · simpa using expire_kept s e t
  · exact ⟨rfl, rfl, rfl⟩

/-- A timer that does not stand at 0 has no expiry (log 3). -/
theorem expireNow_notDue (s : State) (t : TimerName) (e : Option Evaluation) (h : s.timer t ≠ some 0) :
    s.expireNow t e = s := if_neg h

/-- A timer at 0 expires. -/
theorem expireNow_due (s : State) (t : TimerName) (e : Option Evaluation) (h : s.timer t = some 0) :
    s.expireNow t e = (s.expire e t).updateAttn := if_pos h

/-- A seal in flight completes whatever its timer has left (log 22). -/
theorem completeNow_running (s : State) (l : Lane) (n : Nat) (h : s.timer (.sealing l) = some n) :
    s.completeNow l = (s.completeSeal l).updateAttn := by simp [completeNow, h]

/-- With no seal in flight nothing completes. -/
theorem completeNow_stopped (s : State) (l : Lane) (h : s.timer (.sealing l) = none) : s.completeNow l = s := by
  simp [completeNow, h]

theorem mem_allTimers (t : TimerName) : t ∈ allTimers := by
  cases t <;> simp [allTimers]

/-- The timer an idle step takes is due. -/
theorem nextDue_due (s : State) (t : TimerName) (h : s.nextDue = some t) : s.timer t = some 0 := by
  have key : ∀ ts : List TimerName, (∀ u ∈ ts, s.timer u = some 0) →
      ∀ t, ts.foldr (fun t best =>
        match best with
        | none => some t
        | some u => if Config.dueRank s.clock t.number ≤ Config.dueRank s.clock u.number then some t else some u)
        none = some t → s.timer t = some 0 := by
    intro ts
    induction ts with
    | nil => intro _ t h; simp at h
    | cons a rest ih =>
      intro hall t h
      have ih' := ih (fun u hu => hall u (List.mem_cons_of_mem _ hu))
      rw [List.foldr_cons] at h
      split at h
      · cases h; exact hall _ List.mem_cons_self
      · rename_i u hu
        split at h
        · cases h; exact hall _ List.mem_cons_self
        · cases h; exact ih' _ hu
  exact key s.dueTimers (fun u hu => by simpa using (List.mem_filter.mp hu).2) t h

/-- An idle step takes an expiry exactly when a timer is due. -/
theorem nextDue_none_iff (s : State) : s.nextDue = none ↔ ∀ t, s.timer t ≠ some 0 := by
  constructor
  · intro h t ht
    have hm : t ∈ s.dueTimers := List.mem_filter.mpr ⟨mem_allTimers t, by simp [ht]⟩
    unfold nextDue at h
    revert h hm
    generalize s.dueTimers = ts
    cases ts with
    | nil => intro _ hm; cases hm
    | cons a rest =>
      intro h _
      rw [List.foldr_cons] at h
      split at h
      · cases h
      · split at h <;> cases h
  · intro h
    cases hd : s.nextDue with
    | none => rfl
    | some t => exact absurd (nextDue_due s t hd) (h t)

end State

end Sys2Proof.Machine
end

