-- ==== Sys2Proof/Laws/Safety.lean ====
section
/-! SUPPORT. The words the statements use, in terms of the operations: posting a list of notices, the round notices of a
close, the exclusion at a threshold, the settle and mismatch timers. -/

namespace Sys2Proof.Machine

@[simp] theorem posted_nil (stamp : BitVec 16) (n : NoticeUnit) : posted stamp n [] = n := rfl

@[simp] theorem posted_cons (stamp : BitVec 16) (n : NoticeUnit) (body : NoticeBody) (rest : List NoticeBody) :
    posted stamp n (body :: rest) = posted stamp (n.post stamp body) rest := rfl

theorem posted_append (stamp : BitVec 16) (n : NoticeUnit) (first rest : List NoticeBody) :
    posted stamp n (first ++ rest) = posted stamp (posted stamp n first) rest := by
  simp [posted]

/-- Notices posted by a block, one after the other, change the notice unit only. -/
theorem Blocks.postAll_eq (b : Blocks) (bodies : List NoticeBody) :
    b.postAll bodies = { b with notices := posted b.vote.lastEnded b.notices bodies } := by
  unfold Blocks.postAll
  induction bodies generalizing b with
  | nil => rfl
  | cons body rest ih => simp only [List.foldl_cons, ih, Blocks.post, posted_cons]

@[simp] theorem Blocks.evaluate_channels (b : Blocks) (c : Channel) :
    b.evaluate.channels.row c = b.evaluateChannel c := by
  simp [Blocks.evaluate]

/-- The notices a commit posts are those of the close, as they are stated. -/
theorem Blocks.roundNotices_eq (b : Blocks) : Blocks.roundNotices b.vote.nextRound b.evaluate = closeNotices b := by
  simp only [Blocks.roundNotices, Blocks.dissentItems, Blocks.unagreedItems, Blocks.withheldItems,
    Blocks.evaluate_channels, Blocks.evaluateChannel, closeNotices, List.isEmpty_iff]

/-- A lane the report of a close does not name keeps its strike count (04 R67). -/
theorem Blocks.strikesAfter_of_not_reported (b : Blocks) (l : Lane)
    (h : ¬ (b.vote.proposers.has l = true ∧ b.laneState l = .voting)) :
    strikesAfter b l = (b.lanes.row l).strikes := by
  unfold strikesAfter
  rw [if_neg h]

/-! ## Settle and mismatch timers -/

/-- The settle timer a recomputed drive leaves (01 R10, 08 R135). -/
theorem ChannelOutput.driveTo_settle (o : ChannelOutput) (d : Drive) (settleTime : Nat) :
    (o.driveTo d settleTime).settle = settleAfter o.drive o.settle d settleTime := by
  unfold driveTo settleAfter
  by_cases same : o.drive = d
  · simp [same]
  · have changed : ¬ d = o.drive := fun e => same e.symm
    rw [if_neg same, if_neg changed]
    cases d.type <;> rfl

/-- The two disagree, in the words of 08 R135. -/
theorem ChannelOutput.disagrees_iff (o : ChannelOutput) :
    o.disagrees = true ↔ ((o.drive.energized = true ∧ o.readback = .deEnergized) ∨
      (o.drive.energized = false ∧ o.readback = .energized)) := by
  unfold disagrees
  cases o.drive.energized <;> cases o.readback <;> simp

/-- The conditions of 08 R137, as the output stage computes them. -/
theorem mismatchRuns_iff (s : State) (c : Channel) :
    s.toBlocks.mismatchRuns c (s.channelOutput c) = true ↔ MismatchConditions s c := by
  simp only [Blocks.mismatchRuns, Blocks.supervised, MismatchConditions, ← ChannelOutput.disagrees_iff]
  cases (s.channelOutput c).settle <;> simp [and_assoc]

/-- A channel whose output was supervised in the state it stands in follows 08 R137 from the timer it had. -/
theorem mismatchFollows_of_supervised (t : State) (c : Channel) (o : ChannelOutput)
    (h : t.channelOutput c = t.toBlocks.superviseOutput c o) : MismatchFollows t c o.mismatch := by
  have runs : t.toBlocks.mismatchRuns c o = t.toBlocks.mismatchRuns c (t.channelOutput c) := by
    rw [h]
    rfl
  have timer : (t.channelOutput c).mismatch = (t.toBlocks.superviseOutput c o).mismatch := congrArg _ h
  unfold MismatchFollows
  rw [← mismatchRuns_iff, ← runs, timer]
  unfold Blocks.superviseOutput
  refine ⟨fun yes => ?_, fun no => ?_⟩
  · simp only [yes, if_true]
    cases o.mismatch <;> simp
  · simp [no]

end Sys2Proof.Machine
end

