-- ==== Sys2Proof/Tests/Slice0.lean ====
section
/-! SUPPORT. Tests: the well-formedness smoke, the check values and examples the spec gives, one command on a small state
each, and for every statement with hypotheses a state and operands that meet them together. -/

set_option Elab.async false

namespace Sys2Proof.Machine.Tests

/-! ## Well-formedness -/

theorem test_wellFormed_refuses_longPayload :
    (Instr.join 0 0 (List.replicate 257 0#8)).wellFormed = false := by decide +kernel

theorem test_wellFormed_refuses_knownKind : (Instr.unknownRequestKind 0 0x0F#8 0 []).wellFormed = false := by decide

theorem test_wellFormed_accepts_unknownKind : (Instr.unknownRequestKind 0 0x00#8 0 []).wellFormed = true := by decide

theorem test_wellFormed_accepts_longestPayload :
    (Instr.linkReset 0 0 (List.replicate 256 0#8)).wellFormed = true := by decide +kernel

/-! ## Values the spec gives -/

/-- The nine characters "123456789". -/
def digits : List Byte := [0x31#8, 0x32#8, 0x33#8, 0x34#8, 0x35#8, 0x36#8, 0x37#8, 0x38#8, 0x39#8]

theorem test_crc16_of_digits : crc16 digits = 0x29B1#16 := by decide +kernel

theorem test_crc32_of_digits : crc32 digits = 0xCBF43926#32 := by decide +kernel

/-- The PROPOSE frame of the example in 11.3, its CRC aside. -/
theorem test_proposeFrame_of_spec :
    (requestFrame 0x04#8 0x07#8
        [0x00#8, 0xC9#8, 0x02#8, 0x03#8, 0x00#8, 0x01#8, 0x15#8, 0x01#8, 0x95#8]).take 13
      = [0x04#8, 0x07#8, 0x00#8, 0x09#8, 0x00#8, 0xC9#8, 0x02#8, 0x03#8, 0x00#8, 0x01#8, 0x15#8, 0x01#8, 0x95#8] := by
  decide +kernel

theorem test_parsePropose_of_spec :
    parsePropose [0x00#8, 0xC9#8, 0x02#8, 0x03#8, 0x00#8, 0x01#8, 0x15#8, 0x01#8, 0x95#8]
      = some (201#16, [(3, 1), (21, 405)]) := by decide

/-- 02 R30: the values 100, 120, 300 and 310 with tolerance 25 and Q = 3. -/
theorem test_median_of_spec : median [300, 100, 310, 120] = some 120 := by decide

theorem test_level_of_spec : judgeLevel 3 25 [100, 120, 300, 310] = .noQuorum := by decide

theorem test_discrete_of_spec : judgeDiscrete 3 [1, 1, 1] = .agreed 1 ∧ judgeDiscrete 3 [1, 1, 0] = .noQuorum := by
  decide

/-- 03 R45: with a holder in C only the others are withheld, with none every riser is. -/
theorem test_group_of_spec :
    groupWithholds (fun c => if c = 3 then 1 else 0) (fun _ => 1) [3, 5] 5 = true ∧
    groupWithholds (fun c => if c = 3 then 1 else 0) (fun _ => 1) [3, 5] 3 = false ∧
    groupWithholds (fun _ => 0) (fun _ => 1) [3, 5] 3 = true := by decide

/-! ## Small states -/

/-- A valid image: channels 0 and 2 DISCRETE in group 0, channel 1 LEVEL, the rest UNUSED; lanes 0 to 2 enrolled, Q = 2,
lease 20, grace 100, deadline 10, strike threshold 3, ballot lifetime 500. -/
def image : Memory :=
  Memory.writeBytes (Memory.writeBytes (Memory.writeBytes [] 0
      [0x07#8, 0x02#8, 20#8, 0#8, 100#8, 10#8, 3#8, 0x01#8, 0xF4#8]) 16
    [0x01#8, 0x80#8, 0#8, 0#8, 0x21#8, 0x02#8, 0x80#8, 0#8, 5#8, 0x13#8, 0x01#8, 0#8, 0#8, 0#8, 0x21#8]) 336
    [2#8, 0#8, 2#8]

theorem test_image_is_valid : validate image = none := by decide +kernel

/-- The record decoded from it. -/
def record : ConfigRecord := decodeConfig image

theorem test_record_of_image :
    (record.enrolled, record.quorum, record.lease, record.grace, record.deadline, record.strikeThreshold,
      record.ballotLifetime) = (0b0111#4, 2, 20, 100, 10, 3, 500) ∧
    record.entries.row 1 = ⟨.level, 0, 5, 1, 3, true⟩ ∧ record.groups.row 0 = [0, 2] := by decide +kernel

/-- A lane record by its state, with the timers that state runs. -/
def laneIn : LaneState → LaneRecord
  | .candidate => ⟨.candidate, 0, some 20, none, false, false⟩
  | .voting => ⟨.voting, 0, some 20, none, false, false⟩
  | .suspect => ⟨.suspect, 0, none, some 100, false, false⟩
  | .absent => ⟨.absent, 0, none, none, false, false⟩
  | .linked => ⟨.linked, 0, none, none, false, false⟩
  | .excluded => ⟨.excluded, 1, none, none, false, false⟩

/-- A channel driven at 0, its readback agreeing. -/
def driven (type : ChannelType) : ChannelOutput := { ChannelOutput.reset with drive := ⟨type, 0⟩ }

/-- A configured part: device state, open round, the states of lanes 0 to 3; channel 0 and 1 with drives as 01 R8 has
them. -/
def configured (device : DeviceState) (round : OpenRound) (s0 s1 s2 s3 : LaneState) : State :=
  { State.reset with
    device := device
    active := some ⟨record, 0x12345678#32⟩
    lanes := ⟨⟨[laneIn s0, laneIn s1, laneIn s2, laneIn s3]⟩, rfl⟩
    vote := { VoteEngine.reset with
      openRound := round, nextRound := 7, deadline := if round = .collecting then some 0 else none }
    output := { OutputStage.reset with
      channels := (((Table.fill 64 ChannelOutput.reset).put 0 (driven .discrete)).put 1 (driven .level)).put 2
        (driven .discrete) }
    notices := { NoticeUnit.reset with
      readers := Table.mapRows ⟨⟨[s0, s1, s2, s3]⟩, rfl⟩ (fun x => if x = .absent then none else some ⟨0, false⟩) } }

/-- RUNNING, OPEN_IDLE, lanes 0 to 2 VOTING. -/
def running : State := configured .running .idle .voting .voting .voting .absent

/-- RUNNING, OPEN_COLLECTING with its deadline due, lane 1 the one proposer, with ON for channel 0. -/
def collecting : State :=
  let s := configured .running .collecting .voting .voting .voting .absent
  { s with vote := { s.vote with
      proposers := 0b0010#4, proposals := s.vote.proposals.put 1 (ProposalRow.empty.put 0 (some 1)) } }

/-- SAFE_HOLD, lanes 0 and 1 VOTING, lane 2 CANDIDATE. -/
def holding : State := configured .safeHold .none .voting .voting .candidate .absent

/-- A staging area replaced by a sealed one of a digest. -/
def withSealed (s : State) (l : Lane) (d : Digest) : State := s.setStaging l ⟨[], .sealed, some d, none⟩

/-- The timers of a lane that run, due. -/
def dueLane (s : State) (l : Lane) : State :=
  let r := s.lanes.row l
  { s with lanes := s.lanes.put l { r with lease := r.lease.map (fun _ => 0), grace := r.grace.map (fun _ => 0) } }

/-- The outcome of a command, when it is a next state. -/
def after (i : Instr) (s : State) : Option State :=
  match exec i s with
  | .next t => some t
  | .fault _ => none
  | .refused _ => none

/-! ## Commands on small states -/

theorem test_join_links :
    (after (.join 0 0 [1, 2, 3, 4]) State.reset).map (fun t => (t.laneState 0, (t.ports.row 0).queue, t.failn))
      = some (.linked, [.response ⟨0x01#8, 0, .accepted, [0x02#8], false, true, false⟩], false) := by decide +kernel

theorem test_join_digestMismatch :
    (after (.join 2 0 [0, 0, 0, 0]) (configured .running .idle .voting .voting .absent .absent)).map
        (fun t => (t.laneState 2, (t.ports.row 2).queue.map (fun x => x == .response
          ⟨0x01#8, 0, .digestMismatch, [0x01#8], false, false, false⟩)))
      = some (.absent, [true]) := by decide +kernel

theorem test_keepalive_return_in_safeHold :
    (after (.keepalive 1 0 []) (configured .safeHold .none .voting .suspect .voting .absent)).map
        (fun t => (t.laneState 1, (t.lanes.row 1).lease, (t.lanes.row 1).grace))
      = some (.voting, some 20, none) := by decide +kernel

theorem test_leave_loses_quorum :
    (after (.leave 0 0 [] none) (configured .running .idle .voting .voting .absent .absent)).map
        (fun t => (t.device, t.vote.nextRound, t.vote.openRound))
      = some (.safeHold, 8, .none) := by decide +kernel

theorem test_propose_stores :
    (after (.propose 0 0 [0x00#8, 0x07#8, 0x01#8, 0x00#8, 0x00#8, 0x01#8] none) running).map
        (fun t => (t.vote.openRound, t.vote.deadline, t.vote.proposers, (t.vote.proposals.row 0).row 0))
      = some (.collecting, some 10, 0b0001#4, some 1) := by decide +kernel

theorem test_propose_late :
    (after (.propose 0 0 [0x00#8, 0x06#8, 0x01#8, 0x00#8, 0x00#8, 0x01#8] none) running).map
        (fun t => (t.ports.row 0).queue)
      = some [.response ⟨0x04#8, 0, .late, [0x00#8, 0x07#8], false, false, false⟩] := by decide +kernel

theorem test_deadline_commits :
    (after (.roundDeadlineExpiry none) collecting).map
        (fun t => (t.vote.nextRound, t.vote.openRound, (t.vote.channels.row 0).hold, t.device))
      = some (8, .idle, 1, .running) := by decide +kernel

/-- 04 R62: the request first, the lease restarts and the expiry does not take place. -/
theorem test_keepalive_before_leaseExpiry :
    (after (.keepalive 0 0 []) (dueLane running 0)).map
        (fun t => (t.timer (.lease 0), (after (.leaseExpiry 0 none) t).map (fun u => u.laneState 0)))
      = some (some 20, some .voting) := by decide +kernel

theorem test_leaseExpiry_before_keepalive :
    (after (.leaseExpiry 0 none) (dueLane running 0)).map (fun t => (t.laneState 0, (t.lanes.row 0).grace))
      = some (.suspect, some 100) := by decide +kernel

/-- 08 R138: a drive change first, the settle restarts and no comparison is made. -/
theorem test_veto_before_settleExpiry :
    let s := running.setBlocks (running.toBlocks.setChannelOutput 0
      { driven .discrete with drive := ⟨.discrete, 1⟩, settle := some 0 })
    (after (.veto 0 0 [1, 0, 1]) s).map (fun t =>
        (t.timer (.settle 0), (after (.settleExpiry 0) t).map (fun u => u.fault 0)))
      = some (some 1, some .none) := by decide +kernel

theorem test_idle_counts :
    running.idle.timer (.lease 0) = some 19 ∧ running.idle.clock = 1 ∧ running.idle.timer (.grace 0) = none := by
  decide +kernel

theorem test_veto_holds_channel :
    (after (.veto 0 0 [0x01#8, 0x00#8, 0x01#8]) running).map
        (fun t => (t.vetoed 0, t.vetoed 2, (t.ports.row 0).queue))
      = some (true, false, [.response ⟨0x05#8, 0, .accepted, [0x01#8], false, false, false⟩]) := by decide +kernel

theorem test_veto_unusedChannel :
    (after (.veto 0 0 [0x02#8, 0x00#8, 0x01#8, 0x09#8, 0x01#8]) running).map (fun t => (t.ports.row 0).queue)
      = some [.response ⟨0x05#8, 0, .badEntry, [0x01#8], false, false, false⟩] := by decide +kernel

theorem test_support_creates :
    (after (.support 0 0 [0x01#8, 0#8, 0#8, 0#8, 9#8]) (withSealed running 0 9#32)).map
        (fun t => (t.ballots, (t.ports.row 0).queue))
      = some ([⟨0, .commitConfig 9#32, 0b0001#4, 500⟩],
          [.response ⟨0x06#8, 0, .accepted, [0x00#8, 0x01#8, 0x01#8, 0x02#8], false, false, false⟩]) := by
  decide +kernel

theorem test_resume_passes :
    (after (.support 1 0 [0x04#8]) { holding with ballots := [⟨3, .resume, 0b0001#4, 77⟩] }).map
        (fun t => (t.device, t.vote.openRound, t.ballots, t.vote.nextRound))
      = some (.running, .idle, [], 7) := by decide +kernel

theorem test_stageWrite_crossing :
    (after (.stageWrite 0 0 [0x01#8, 0xBF#8, 0xAA#8, 0xBB#8]) State.reset).map (fun t => (t.ports.row 0).queue)
      = some [.response ⟨0x07#8, 0, .badEntry, [0x00#8], false, false, false⟩] := by decide +kernel

theorem test_stageWrite_last :
    (after (.stageWrite 0 0 [0x01#8, 0xBF#8, 0xAA#8]) State.reset).map (fun t => (t.staging.row 0).image)
      = some [(447, 0xAA#8)] := by decide +kernel

theorem test_seal_reserves :
    (after (.stageSeal 0 0 []) State.reset).map (fun t => ((t.ports.row 0).queue, (t.staging.row 0).state))
      = some ([.reservation 0x08#8 0], .sealing) := by decide +kernel

/-- "An image of all 00h fails the first validity check at seal, with reason ENROLLED" (07 R112). -/
theorem test_seal_of_zeros : validate [] = some ⟨.enrolled, 0⟩ := by decide +kernel

theorem test_unknownKind_is_badRequest :
    (after (.unknownRequestKind 3 0x55#8 0 [1]) running).map (fun t => (t.ports.row 3).queue)
      = some [.response ⟨0x55#8, 0, .badRequest, [], false, false, false⟩] := by decide +kernel

theorem test_duplicate_is_refused :
    (after (.readStatus 0 0xFF#8 []) State.reset).map (fun t => ((t.ports.row 0).outcome, (t.ports.row 0).expected))
      = some (.duplicate, 0) := by decide +kernel

theorem test_noneFrame_is_chosen :
    (after (.chipSelectAssert 0) State.reset).map (fun t => (t.ports.row 0).transaction)
      = some (.shifting (noneFrame .none none false false false) false) := by decide +kernel

theorem test_noneFrame_length : (noneFrame .none none false false false).length = 10 := by decide +kernel

theorem test_readStatus_length : (running.toBlocks.statusPayload).length = 41 := by decide +kernel

theorem test_readChannels_length : (running.toBlocks.channelsPayload 32 32).length = 226 := by decide +kernel

theorem test_scrub_locksOut :
    (after (.scrubRecheck .ballotTable false) running).map (fun t => (t.device, t.lockoutRecord, t.failn))
      = some (.lockout, some ⟨.storeCheck, 7, .running⟩, true) := by decide +kernel

theorem test_readback_starts_mismatch :
    (after (.readbackLevelChange 0 .energized) running).map (fun t => (t.channelOutput 0).mismatch)
      = some (some 1) := by decide +kernel

theorem test_rstn_keeps_record :
    (after .rstnAssert { running with lockoutRecord := some ⟨.storeCheck, 7, .running⟩ }).map
        (fun t => (t.device, t.lockoutRecord, t.power.rstnLow))
      = some (.unconfigured, some ⟨.storeCheck, 7, .running⟩, true) := by decide +kernel

/-! ## Witnesses: the hypotheses of each statement, met together -/

/-- A state with a command waiting. -/
def waiting : State := { running with pending := [.readStatus 0 0 []] }

/-- A state whose next step answers a next state. -/
def Steps (s : State) : Prop := ∃ t, step s = .next t

theorem waiting_steps : Steps waiting := ⟨_, rfl⟩

theorem witness_StepRunsFrontCommand : waiting.pending = .readStatus 0 0 [] :: [] := rfl

theorem running_notDue : running.inReset = false ∧ ∀ n ∈ allTimers, running.timer n ≠ some 0 := by decide +kernel

theorem witness_IdleStepPassesOneMs :
    running.pending = [] ∧ running.inReset = false ∧ MembershipTimersRun running ∧
    ¬ MembershipTimersRun State.reset ∧ ∀ n, running.timer n ≠ some 0 :=
  ⟨rfl, running_notDue.1, by decide +kernel, by decide +kernel, fun n => running_notDue.2 n (State.mem_allTimers n)⟩

theorem witness_IdleStepPassesOneMs_due :
    collecting.pending = [] ∧ collecting.timer .deadline = some 0 ∧ collecting.inReset = false := by decide +kernel

theorem witness_IdleStepPassesOneMs_inReset :
    ({ running with power := ⟨true, false⟩ } : State).pending = [] ∧
    ({ running with power := ⟨true, false⟩ } : State).inReset = true := by decide +kernel

theorem witness_ExpiryTakesPlaceOnlyWhenDue :
    running.timer .deadline ≠ some 0 ∧ running.timer (.sealing 0) = none ∧ Takes (dueLane running 0) 0 0 [] ∧
    (dueLane running 0).device ≠ .lockout ∧ (dueLane running 0).laneState 0 = .voting ∧
    1 ≤ (dueLane running 0).config.lease ∧ ((dueLane running 0).lanes.row 0).grace.isSome = false ∧
    ((after (.keepalive 0 0 []) (dueLane running 0)).isSome = true) := by decide +kernel

theorem witness_ExpiryTakesPlaceOnlyWhenDue_suspect :
    let s := dueLane (configured .running .idle .voting .voting .suspect .absent) 2
    Takes s 2 0 [] ∧ s.timer (.grace 2) = some 0 ∧ s.laneState 2 = .suspect ∧ s.device = .running ∧
    (s.lanes.row 2).returnPending = false ∧ (after (.keepalive 2 0 []) s).isSome = true := by decide +kernel

theorem witness_EveryCommandAnswersNext :
    isResetCommand (.chipSelectAssert 0) = false ∧
    ({ running with power := ⟨false, true⟩ } : State).inReset = true := by decide +kernel

theorem witness_ResetsLeaveTheResetState :
    ({ running with power := ⟨true, true⟩ } : State).power.supplyReset = true ∧
    ({ running with power := ⟨true, true⟩ } : State).power.rstnLow = true ∧ running.power.supplyReset = false ∧
    running.power.rstnLow = false := by decide +kernel

theorem witness_ImagesStayCanonical : ImagesCanonical waiting ∧ Steps waiting :=
  ⟨⟨by decide +kernel, by intro p h; cases h⟩, waiting_steps⟩

theorem witness_FailnLawKept : FailnLaw waiting ∧ Steps waiting :=
  ⟨by unfold FailnLaw; decide +kernel, waiting_steps⟩

theorem witness_AttnLawKept : AttnLaw waiting ∧ Steps waiting :=
  ⟨by unfold AttnLaw; decide +kernel, waiting_steps⟩

/-- Every reader of it has read every entry. -/
theorem waiting_holdsTheUnread : HoldsTheUnread waiting.notices := by unfold HoldsTheUnread; decide +kernel

theorem waiting_noticeLaw : NoticeLaw waiting := by
  have readers : ∀ l, waiting.notices.readers.row l = none ∨ waiting.notices.readers.row l = some ⟨0, false⟩ := by
    decide +kernel
  refine ⟨by decide +kernel, (by intro i n h; cases h), by decide +kernel, by decide +kernel, fun l r h => ?_⟩
  refine ⟨waiting_holdsTheUnread, fun gap => ?_⟩
  rcases readers l with none_l | some_l
  · rw [none_l] at h
    cases h
  · rw [some_l] at h
    cases h
    cases gap

theorem witness_NoticeLawKept : NoticeLaw waiting ∧ Steps waiting := ⟨waiting_noticeLaw, waiting_steps⟩

theorem witness_ResponseLawKept : ResponseLaw waiting ∧ Steps waiting :=
  ⟨by unfold ResponseLaw; decide +kernel, waiting_steps⟩

theorem waiting_driveLaw : DriveLaw waiting := by
  have none_proposed : ∀ l c, (waiting.vote.proposals.row l).row c = none := by decide +kernel
  refine ⟨by decide +kernel, fun _ l c v h => ?_, by unfold MismatchConditions; decide +kernel⟩
  simp [none_proposed] at h

theorem waiting_roundLaw : RoundLaw waiting := by unfold RoundLaw; decide +kernel

theorem witness_RoundLawKept : RoundLaw waiting ∧ Steps waiting := ⟨waiting_roundLaw, waiting_steps⟩

theorem witness_QuorumLawKept : QuorumLaw waiting ∧ Steps waiting :=
  ⟨by unfold QuorumLaw; decide +kernel, waiting_steps⟩

/-- Every lane that takes part is enrolled. -/
theorem waiting_membershipLaw : MembershipLaw waiting := by
  refine ⟨by decide +kernel, by decide +kernel, fun l h _ => ⟨⟨record, 0x12345678#32⟩, rfl, ?_⟩, by decide +kernel⟩
  have enrolled : ∀ l, waiting.laneState l ≠ .absent → record.enrolled.has l = true := by decide +kernel
  exact enrolled l h

theorem witness_MembershipLawKept : MembershipLaw waiting ∧ Steps waiting := ⟨waiting_membershipLaw, waiting_steps⟩

theorem waiting_ballotLaw : BallotLaw waiting := by unfold BallotLaw; decide +kernel

theorem witness_BallotLawKept : BallotLaw waiting ∧ Steps waiting := ⟨waiting_ballotLaw, waiting_steps⟩

theorem waiting_imagesValid : ImagesValid waiting := by
  refine ⟨by decide +kernel, by decide +kernel, (by intro p h; cases h), (by intro x h; cases h), ?_⟩
  intro a h
  cases h
  exact ⟨image, test_image_is_valid, rfl⟩

/-- Channel 0 driven ON with its settle due; the next recomputation drives it OFF. -/
def driving : State :=
  waiting.setBlocks (waiting.toBlocks.setChannelOutput 0
    { driven .discrete with drive := ⟨.discrete, 1⟩, settle := some 0 })

theorem witness_ExpiryTakesPlaceOnlyWhenDue_drive :
    ImagesValid driving ∧ driving.timer (.settle 0) = some 0 ∧
    (after (.veto 0 0 [1, 0, 1]) driving).map (fun t =>
      decide ((t.channelOutput 0).drive ≠ (driving.channelOutput 0).drive)) = some true := by
  refine ⟨⟨by decide +kernel, by decide +kernel, (by intro p h; cases h), (by intro x h; cases h), ?_⟩,
    by decide +kernel, by decide +kernel⟩
  intro a h
  cases h
  exact ⟨image, test_image_is_valid, rfl⟩

theorem witness_ActiveConfigurationStaysLegal : BallotLaw waiting ∧ ImagesValid waiting ∧ Steps waiting :=
  ⟨waiting_ballotLaw, waiting_imagesValid, waiting_steps⟩

theorem witness_DriveLawKept : ImagesValid waiting ∧ RoundLaw waiting ∧ DriveLaw waiting ∧ Steps waiting :=
  ⟨waiting_imagesValid, waiting_roundLaw, waiting_driveLaw, waiting_steps⟩

theorem waiting_laneRecordLaw : LaneRecordLaw waiting := by
  have lanes : ∀ l : Lane, ((waiting.lanes.row l).lease.isSome = true ↔
      (waiting.laneState l = .candidate ∨ waiting.laneState l = .voting ∨
        (waiting.laneState l = .suspect ∧ (waiting.lanes.row l).returnPending = true))) ∧
    ((waiting.lanes.row l).grace.isSome = true ↔
      (waiting.laneState l = .suspect ∧ (waiting.lanes.row l).returnPending = false)) ∧
    ((waiting.lanes.row l).returnPending = true → waiting.laneState l = .suspect) ∧
    (waiting.lanes.row l).strikes < record.strikeThreshold := by decide +kernel
  intro l
  refine ⟨(lanes l).1, (lanes l).2.1, (lanes l).2.2.1, fun a h => ?_⟩
  cases h
  exact ⟨Nat.le_of_lt (lanes l).2.2.2, fun _ => (lanes l).2.2.2⟩

theorem witness_LaneRecordLawKept : ImagesValid waiting ∧ LaneRecordLaw waiting ∧ Steps waiting :=
  ⟨waiting_imagesValid, waiting_laneRecordLaw, waiting_steps⟩

theorem waiting_exclusionLaw : ExclusionLaw waiting := by
  have h1 : ∀ c, waiting.agreed c = 0 := by decide +kernel
  have h2 : ∀ c, (waiting.channelOutput c).drive.value = 0 := by decide +kernel
  intro g c d _ _
  exact ⟨fun h => by simp [h1] at h, fun h => by simp [h2] at h⟩

theorem witness_ExclusionLawKept : ImagesValid waiting ∧ DriveLaw waiting ∧ ExclusionLaw waiting ∧ Steps waiting :=
  ⟨waiting_imagesValid, waiting_driveLaw, waiting_exclusionLaw, waiting_steps⟩

/-- Four responses waiting for lane 0. -/
def full : State :=
  running.setPort 0 { running.ports.row 0 with
    queue := List.replicate 4 (.response ⟨0x0C#8, 0, .accepted, [], false, false, false⟩) }

theorem witness_RefusedFrameSetsOnlyPortOutcome :
    sender (.readStatus 0 0xFF#8 []) = some 0 ∧ (Instr.readStatus 0 0xFF#8 []).wellFormed = true ∧
    running.inReset = false ∧ (0xFF#8 ≠ (running.ports.row 0).expected ∧ 0xFF#8 + 1 = (running.ports.row 0).expected) ∧
    (0x05#8 ≠ (running.ports.row 0).expected ∧ 0x05#8 + 1 ≠ (running.ports.row 0).expected) ∧
    0x00#8 = (full.ports.row 0).expected ∧ 4 ≤ (full.ports.row 0).queue.length := by decide +kernel

theorem witness_MalformedRequestIsBadRequest :
    sender (.join 0 0 [1, 2, 3]) = some 0 ∧ Takes running 0 0 [1, 2, 3] ∧ Malformed (.join 0 0 [1, 2, 3]) ∧
    Malformed (.veto 0 0 [1, 0, 3]) ∧ Malformed (.unknownRequestKind 0 0x10#8 0 []) :=
  ⟨rfl, by decide +kernel, (by unfold Malformed; decide), .inr (.inr (.inr (.inr ⟨0, by decide, by decide, by decide⟩))), trivial⟩

theorem witness_LinkResetEmptiesThePort : full.inReset = false ∧ ([] : List Byte).length ≤ 256 := by decide +kernel

theorem witness_ChipSelectChoosesTheFrame :
    running.inReset = false ∧ (running.ports.row 0).transaction = .none ∧
    (full.ports.row 0).transaction = .none := by decide +kernel

/-- Lane 0's link in a transaction. -/
def shifting (isResponse : Bool) : State :=
  full.setPort 0 { full.ports.row 0 with transaction := .shifting [1, 2] isResponse }

theorem witness_ReleaseWithoutRequestSettlesDelivery :
    (shifting true).inReset = false ∧ ((shifting true).ports.row 0).transaction = .shifting [1, 2] true ∧
    ∀ b ∈ ([0, 0] : List Byte), b = 0#8 := by decide +kernel

theorem witness_ReleaseWithoutRequestSettlesDelivery_refused :
    (shifting false).inReset = false ∧ ((shifting false).ports.row 0).transaction = .shifting [1, 2] false ∧
    (∃ b ∈ ([1, 0, 0, 0, 0, 0] : List Byte), b ≠ 0#8) ∧ ([1] : List Byte).length < 6 ∧
    crc16Bytes (([1, 0, 0, 0, 0, 0] : List Byte).take 4) ≠ (([1, 0, 0, 0, 0, 0] : List Byte).drop 4).take 2 := by
  decide +kernel

theorem test_badFrame_during_response :
    (after (.chipSelectRelease 0 [1, 2, 3] none) (shifting true)).map
        (fun t => ((t.ports.row 0).queue.length, (t.ports.row 0).outcome, (t.ports.row 0).outcomeSeq))
      = some (3, .lengthError, some 2) := by decide +kernel

theorem witness_RequestFrameReadsBack : ([1, 2, 3] : List Byte).length ≤ 256 := by decide

theorem witness_ReleaseTakesTheRequestShiftedIn :
    sender (.keepalive 0 0 []) = some 0 ∧ (Instr.keepalive 0 0 []).wellFormed = true ∧
    (shifting true).inReset = false ∧ ((shifting true).ports.row 0).transaction = .shifting [1, 2] true := by
  decide +kernel

theorem witness_JoinByState_absent :
    Takes State.reset 0 0 (bytes32 5#32) ∧ State.reset.device = .unconfigured ∧ State.reset.laneState 0 = .absent ∧
    holding.laneState 3 = .absent ∧ Takes holding 3 0 (bytes32 5#32) ∧ holding.device = .safeHold ∧
    holding.active = some ⟨record, 0x12345678#32⟩ := by decide +kernel

theorem witness_JoinByState_running :
    let s := configured .running .idle .voting .voting .absent .absent
    Takes s 2 0 (bytes32 0x12345678#32) ∧ Takes s 3 0 (bytes32 0x12345678#32) ∧ s.device = .running ∧
    s.active = some ⟨record, 0x12345678#32⟩ ∧ s.laneState 2 = .absent ∧ s.laneState 3 = .absent ∧
    record.enrolled.has 3 = false ∧ record.enrolled.has 2 = true ∧ (0x12345678#32 : Digest) ≠ 0x12345679#32 := by
  decide +kernel

theorem witness_JoinByState_gathering :
    let s := configured .gathering .none .voting .absent .absent .absent
    let u := configured .gathering .none .absent .absent .absent .absent
    Takes s 1 0 (bytes32 0x12345678#32) ∧ s.laneState 1 = .absent ∧ s.device = .gathering ∧
    s.config.quorum ≤ s.votingCount + 1 ∧ Takes u 1 0 (bytes32 0x12345678#32) ∧ u.laneState 1 = .absent ∧
    u.votingCount + 1 < u.config.quorum := by decide +kernel

theorem witness_JoinByState_takingPart :
    let s := configured .running .idle .candidate .voting .suspect .excluded
    Takes s 0 0 (bytes32 5#32) ∧ Takes s 1 0 (bytes32 5#32) ∧ Takes s 2 0 (bytes32 5#32) ∧
    Takes s 3 0 (bytes32 5#32) ∧ s.device ≠ .lockout ∧ s.laneState 0 = .candidate ∧ s.laneState 1 = .voting ∧
    s.laneState 2 = .suspect ∧ s.laneState 3 = .excluded ∧
    ((configured .safeHold .none .suspect .voting .voting .linked).lanes.row 0).returnPending = false ∧
    (configured .lockout .none .suspect .voting .voting .absent).device = .lockout ∧
    Takes (configured .lockout .none .suspect .voting .voting .absent) 0 0 (bytes32 5#32) := by decide +kernel

theorem test_join_excluded_sets_rejoinRequested :
    (after (.join 3 0 [0, 0, 0, 0]) (configured .running .idle .voting .voting .voting .excluded)).map
        (fun t => (t.laneState 3, (t.lanes.row 3).rejoinRequested))
      = some (.excluded, true) := by decide +kernel

theorem witness_KeepaliveByState :
    Takes running 0 0 [] ∧ running.device ≠ .lockout ∧ running.laneState 0 = .voting ∧
    (configured .safeHold .none .suspect .voting .voting .excluded).laneState 0 = .suspect ∧
    Takes (configured .safeHold .none .suspect .voting .voting .excluded) 0 0 [] ∧
    ((configured .safeHold .none .suspect .voting .voting .excluded).lanes.row 0).returnPending = false ∧
    (configured .lockout .none .suspect .voting .voting .excluded).device = .lockout := by decide +kernel

theorem witness_LeaveMakesAbsent :
    Takes running 0 0 [] ∧ running.laneState 0 = .voting ∧ running.device = .running ∧
    running.vote.openRound = .idle ∧ running.config.quorum < running.votingCount ∧ Takes holding 2 0 [] ∧
    holding.device ≠ .lockout ∧ holding.laneState 2 = .candidate ∧ holding.laneState 0 = .voting ∧
    holding.device = .safeHold ∧ holding.vote.openRound = .none ∧
    (configured .gathering .none .voting .absent .absent .absent).votingCount
      ≤ (configured .gathering .none .voting .absent .absent .absent).config.quorum := by decide +kernel

/-- A collecting round that stays open when lane 1, its one proposer, leaves. -/
theorem witness_LeavesQuietly_collecting : LeavesQuietly collecting 1 :=
  .inr (.inr (by decide +kernel))

theorem witness_MembershipAndBallotExpiries :
    (dueLane running 0).timer (.lease 0) = some 0 ∧ running.laneState 0 = .voting ∧
    running.vote.openRound = .idle ∧ running.config.quorum < running.votingCount ∧
    (dueLane holding 2).timer (.lease 2) = some 0 ∧ holding.laneState 2 = .candidate ∧
    (dueLane (configured .running .idle .voting .voting .suspect .absent) 2).timer (.grace 2) = some 0 ∧
    ((configured .running .idle .voting .voting .suspect .absent).lanes.row 2).returnPending = false := by
  decide +kernel

theorem witness_MembershipAndBallotExpiries_returning :
    let s := (configured .running .idle .voting .voting .suspect .absent)
    let t := dueLane (s.setBlocks (s.toBlocks.renew 2)) 2
    t.timer (.lease 2) = some 0 ∧ t.laneState 2 = .suspect ∧ (t.lanes.row 2).returnPending = true := by
  decide +kernel

/-- RUNNING with two VOTING lanes, Q = 2, lane 2 CANDIDATE, the lease of lane 0 due, and a pending record as given. -/
def losing (pending : Option PendingRecord) : State :=
  { dueLane (configured .running .collecting .voting .voting .candidate .absent) 0 with pendingRecord := pending }

theorem witness_LostQuorumEntersSafeHold :
    (losing none).device = .running ∧ (losing none).laneState 0 = .voting ∧
    (losing none).votingCount ≤ (losing none).config.quorum ∧ (losing none).vote.openRound ≠ .none ∧
    (losing none).timer (.lease 0) = some 0 ∧ Takes (losing none) 0 0 [] ∧ (losing none).pendingRecord = none := by
  decide +kernel

theorem witness_ProposeRefusals :
    Takes running 0 0 [0, 6, 1, 0, 0, 1] ∧ parsePropose [0, 6, 1, 0, 0, 1] = some (6#16, [(0, 1)]) ∧
    running.device = .running ∧ running.laneState 0 = .voting ∧ 6#16 + 1 = running.vote.nextRound ∧
    parsePropose [0, 7, 2, 0, 0, 1, 9, 0, 1] = some (running.vote.nextRound, [(0, 1), (9, 1)]) ∧
    running.vote.proposers.has 0 = false ∧ running.channelType 9 = .unused ∧
    collecting.vote.proposers.has 1 = true ∧ collecting.laneState 1 = .voting ∧
    Takes holding 0 0 [0, 7, 1, 0, 0, 1] ∧ holding.device ≠ .running ∧ holding.laneState 2 ≠ .voting := by
  decide +kernel

theorem witness_ProposalIsStored :
    Takes running 0 0 [0, 7, 1, 0, 0, 1] ∧
    parsePropose [0, 7, 1, 0, 0, 1] = some (running.vote.nextRound, [(0, 1)]) ∧ running.device = .running ∧
    running.laneState 0 = .voting ∧ running.vote.proposers.has 0 = false ∧ running.vote.openRound ≠ .none ∧
    (1 : Lane) ≠ 0 ∧ running.laneState 1 = .voting ∧ running.vote.proposers.has 1 = false ∧
    (∃ c : Channel, c.val = 0 ∧ running.channelType c = .discrete ∧ 1 ≤ 1) ∧
    (([(0, 1)] : List (Nat × Nat)).map Prod.fst).Nodup := by decide +kernel

theorem witness_DeadlineCommitsTheRound :
    collecting.timer .deadline = some 0 ∧ collecting.device = .running ∧
    collecting.config.quorum ≤ collecting.votingCount ∧ collecting.pendingRecord = none ∧
    (∀ l, collecting.readyForAdmission l = false) ∧
    ∀ l, collecting.laneState l = .voting →
      (collecting.lanes.row l).strikes + 1 < collecting.config.strikeThreshold := by decide +kernel

/-- Lanes 0 and 1 proposed ON for channel 0, lane 2, with two strikes, OFF; lane 3 as given. -/
def striking (s3 : LaneState) : State :=
  let s := configured .running .collecting .voting .voting .voting s3
  { s with
    lanes := s.lanes.put 2 { laneIn .voting with strikes := 2 }
    vote := { s.vote with
      proposers := 0b0111#4
      proposals := Table.build (fun l => ProposalRow.empty.put 0
        (if l = 3 then none else some (if l = 2 then 0 else 1))) } }

theorem witness_CloseExcludesAndAdmits :
    (striking .candidate).timer .deadline = some 0 ∧ (striking .candidate).device = .running ∧
    (striking .candidate).pendingRecord = none ∧ (striking .candidate).ballots = [] ∧
    StruckOut (striking .candidate).toBlocks 2 ∧ ¬ StruckOut (striking .candidate).toBlocks 0 ∧
    (striking .candidate).readyForAdmission 3 = true ∧ (striking .candidate).config.quorum ≤ 3 := by decide +kernel

/-- The count falls below Q: lanes 0 and 1 are SUSPECT, so that lane 2 alone is VOTING. -/
theorem witness_CloseExcludesAndAdmits_holds :
    let s := striking .absent
    let u := { s with lanes := (s.lanes.put 0 (laneIn .suspect)).put 1 (laneIn .suspect) }
    u.timer .deadline = some 0 ∧ u.device = .running ∧ u.pendingRecord = none ∧
    (List.finRange 4).countP (fun l => decide ((u.laneState l = .voting ∧ ¬ StruckOut u.toBlocks l) ∨
      u.readyForAdmission l = true)) < u.config.quorum := by decide +kernel

/-- The image of a configuration that enrols lanes 0 and 1 only. -/
def smallerImage : Memory := Memory.writeBytes image 0 [0x03#8]

/-- The pending switch enrols lanes 0 and 1, not lane 2; with the full image every lane stays. -/
theorem witness_LostQuorumEntersSafeHold_pending :
    let s := losing (some ⟨smallerImage, 9#32⟩)
    s.device = .running ∧ s.laneState 0 = .voting ∧ s.votingCount ≤ s.config.quorum ∧ s.vote.openRound ≠ .none ∧
    s.timer (.lease 0) = some 0 ∧ Takes s 0 0 [] ∧ (decodeConfig smallerImage).enrolled.has 2 = false ∧
    (decodeConfig smallerImage).enrolled.has 0 = true ∧
    (∀ m, (s.laneState m = .absent ∨ record.enrolled.has m = true) ∧ s.laneState m ≠ .linked) := by decide +kernel

theorem test_pendingSwitch_at_safeHold :
    (after (.leave 0 0 [] none) (losing (some ⟨smallerImage, 9#32⟩))).map (fun t =>
        ((t.device, t.vote.nextRound, t.active.map ActiveConfig.digest), t.pendingRecord.isSome,
          [t.laneState 0, t.laneState 1, t.laneState 2]))
      = some ((.safeHold, 8, some 9#32), false, [.absent, .voting, .absent]) := by decide +kernel

theorem witness_PendingSwitchAtClose :
    let s := { collecting with pendingRecord := some ⟨smallerImage, 9#32⟩ }
    s.timer .deadline = some 0 ∧ s.device = .running ∧ s.active = some ⟨record, 0x12345678#32⟩ ∧
    s.config.quorum ≤ s.votingCount ∧ (∀ l, s.readyForAdmission l = false ∧ s.laneState l ≠ .linked) ∧
    (∀ l, s.laneState l = .voting → (s.lanes.row l).strikes + 1 < s.config.strikeThreshold) ∧
    (decodeConfig smallerImage).quorum ≤ 2 ∧ (decodeConfig smallerImage).enrolled.has 2 = false ∧
    (decodeConfig smallerImage).enrolled.has 0 = true := by decide +kernel

/-- With lanes 1 and 2 VOTING only, the switch leaves one VOTING lane. -/
theorem witness_PendingSwitchAtClose_holds :
    let s := configured .running .collecting .absent .voting .voting .absent
    let u := { s with pendingRecord := some ⟨smallerImage, 9#32⟩ }
    u.timer .deadline = some 0 ∧ u.device = .running ∧ u.config.quorum ≤ u.votingCount ∧
    (List.finRange 4).countP (fun l => decide (u.laneState l = .voting ∧
      (decodeConfig smallerImage).enrolled.has l = true)) < (decodeConfig smallerImage).quorum := by decide +kernel

/-- Lane 0 the one VOTING lane that has not proposed. -/
def lastMissing : State :=
  let s := { collecting with vote := { collecting.vote with proposers := 0b0110#4 } }
  dueLane s 0

theorem witness_RoundClosesByCompleteness :
    Takes lastMissing 0 0 [0, 7, 1, 0, 0, 1] ∧
    parsePropose [0, 7, 1, 0, 0, 1] = some (lastMissing.vote.nextRound, [(0, 1)]) ∧
    lastMissing.device = .running ∧ lastMissing.laneState 0 = .voting ∧ lastMissing.vote.proposers.has 0 = false ∧
    lastMissing.vote.openRound = .collecting ∧ lastMissing.channelType 0 = .discrete ∧
    (∀ m, m ≠ 0 → lastMissing.laneState m = .voting → lastMissing.vote.proposers.has m = true) ∧
    lastMissing.config.quorum < lastMissing.votingCount ∧ Takes lastMissing 0 0 [] ∧
    lastMissing.timer (.lease 0) = some 0 := by decide +kernel

theorem test_leave_completes_round :
    (after (.leave 0 0 [] none) lastMissing).map (fun t => (t.vote.nextRound, t.vote.openRound, t.device))
      = some (8, .idle, .running) := by decide +kernel

theorem witness_FailuresEnterLockout_mismatch :
    collecting.timer .deadline = some 0 ∧
    ({ collecting.evaluate with report := [] } : Evaluation) ≠ collecting.evaluate := by
  refine ⟨by decide +kernel, ?_⟩
  have h : collecting.evaluate.report ≠ [] := by decide +kernel
  intro e
  exact h (congrArg Evaluation.report e).symm

theorem witness_DiscreteJudgedByCounting :
    collecting.channelType 0 = .discrete ∧ (collecting.presentValues 0).map Prod.snd = [1] ∧
    IndexSet.size collecting.config.enrolled < 2 * collecting.config.quorum ∧
    ∀ l, collecting.laneState l = .voting → collecting.config.enrolled.has l = true := by decide +kernel

/-- RUNNING, all three lanes proposers with values for channels 0 and 1. -/
def proposed : State :=
  { collecting with vote := { collecting.vote with
      proposers := 0b0111#4
      proposals := Table.build (fun l =>
        (ProposalRow.empty.put 0 (some (if l = 2 then 0 else 1))).put 1 (some (400 + 3 * l.val))) } }

theorem witness_LevelJudgedByMedian :
    proposed.channelType 1 = .level ∧ (proposed.presentValues 1).map Prod.snd = [400, 403, 406] ∧
    proposed.outcomeOf 1 = .agreed 403 := by decide +kernel

theorem witness_HoldAndFallbackByOutcome :
    proposed.outcomeOf 0 = .agreed 1 ∧ collecting.outcomeOf 0 = .noQuorum ∧
    (collecting.vote.channels.row 0).hold + 1 ≤ (collecting.entry 0).holdRounds ∧
    (({ collecting with vote := { collecting.vote with
        channels := collecting.vote.channels.put 0 ⟨1, 2, false, false⟩ } } : State).entry 0).holdRounds ≤ 2 := by
  decide +kernel

theorem witness_DissentByOutcome :
    (proposed.dissentOn 0).has 2 = true ∧ (proposed.dissentOn 0).has 1 = false ∧
    (2, 0) ∈ proposed.presentValues 0 ∧ proposed.vote.proposers.has 2 = true ∧ proposed.laneState 2 = .voting := by
  decide +kernel

theorem witness_GroupWithholdsAllButTheHolder :
    ([0, 2] : List Channel).Nodup ∧
    (∀ x ∈ ([0, 2] : List Channel), ∀ y ∈ ([0, 2] : List Channel),
      (fun c : Channel => if c = 0 then 1 else 0) x = 1 → (fun c : Channel => if c = 0 then 1 else 0) y = 1 →
        x = y) ∧
    2 ≤ (([0, 2] : List Channel).filter (fun x => decide ((fun _ => 1 : Channel → Nat) x = 1))).length := by
  decide

theorem witness_VetoIsApplied :
    Takes running 0 0 [2, 0, 1, 1, 2] ∧ parseVeto [2, 0, 1, 1, 2] = some [(0, true), (1, false)] ∧
    running.device ≠ .lockout ∧ running.device ≠ .unconfigured ∧ running.laneState 0 ≠ .absent ∧
    running.laneState 0 ≠ .excluded ∧ running.channelType 0 ≠ .unused ∧ running.channelType 1 ≠ .unused ∧
    (([(0, true), (1, false)] : List (Nat × Bool)).map Prod.fst).Nodup := by decide +kernel

/-- A VETO on a channel driven ON changes its drive, on one driven at fallback it changes none. -/
theorem witness_VetoIsApplied_settle :
    Takes driving 0 0 [2, 0, 1, 1, 1] ∧
    (after (.veto 0 0 [2, 0, 1, 1, 1]) driving).map (fun t =>
        ((t.channelOutput 0).drive, (t.channelOutput 0).settle, (t.channelOutput 1).drive, (t.channelOutput 1).settle))
      = some (⟨.discrete, 0⟩, some 1, ⟨.level, 0⟩, none) := by decide +kernel

theorem witness_VetoIsApplied_refused :
    parseVeto [3, 0, 1, 64, 1, 0, 2] = some [(0, true), (64, true), (0, false)] ∧ running.channelType 9 = .unused ∧
    Takes State.reset 0 0 [1, 0, 1] ∧ State.reset.device = .unconfigured ∧ running.laneState 3 = .absent ∧
    Takes running 3 0 [1, 0, 1] ∧ Takes (configured .lockout .none .voting .voting .voting .absent) 0 0 [1, 0, 1] ∧
    (configured .lockout .none .voting .voting .voting .absent).device = .lockout := by
  decide +kernel

theorem test_veto_repeatedChannel :
    (after (.veto 0 0 [2, 0, 1, 0, 2]) running).map (fun t => ((t.ports.row 0).queue, t.vetoed 0))
      = some ([.response ⟨0x05#8, 0, .badEntry, [0x01#8], false, false, false⟩], false) := by decide +kernel

theorem witness_ReadbackChangeSupervises :
    running.inReset = false ∧ (running.channelOutput 0).readback ≠ .energized ∧
    running.channelType 0 ≠ .unused ∧ (running.entry 0).readbackChecked = true ∧
    (running.channelOutput 0).settle = none ∧ (running.entry 2).readbackChecked = false := by decide +kernel

/-- Channel 0 disagreeing with its settle timer due, in a fault state. -/
def settlingIn (fault : FaultState) : State :=
  running.setBlocks (running.toBlocks.setChannelOutput 0
    { driven .discrete with fault := fault, settle := some 0, readback := .energized })

theorem witness_SettleAndMismatchExpiries_settle :
    (settlingIn .none).timer (.settle 0) = some 0 ∧ (settlingIn .faulted).timer (.settle 0) = some 0 ∧
    (settlingIn .none).channelType 0 ≠ .unused ∧ ((settlingIn .none).entry 0).readbackChecked = true ∧
    ((settlingIn .none).channelOutput 0).disagrees = true ∧
    (settlingIn .unsafeState).timer (.settle 0) = some 0 := by decide +kernel

/-- Channel 0 disagreeing with its mismatch timer due, in a fault state. -/
def mismatchIn (fault : FaultState) : State :=
  running.setBlocks (running.toBlocks.setChannelOutput 0
    { driven .discrete with fault := fault, mismatch := some 0, readback := .energized })

theorem witness_SettleAndMismatchExpiries_mismatch :
    (mismatchIn .none).timer (.mismatch 0) = some 0 ∧ (mismatchIn .none).channelType 0 ≠ .unused ∧
    (mismatchIn .faulted).timer (.mismatch 0) = some 0 ∧ (mismatchIn .unsafeState).timer (.mismatch 0) = some 0 := by
  decide +kernel

/-- 08 R139: the drive already at fallback, no settle starts and the mismatch timer starts again within the failure. -/
theorem test_failure_at_fallback_restarts_mismatch :
    (after (.mismatchTimerExpiry 0) (mismatchIn .none)).map (fun t =>
        (t.fault 0, (t.channelOutput 0).settle, (t.channelOutput 0).mismatch))
      = some (.faulted, none, some 1) := by decide +kernel

theorem witness_FailuresEnterLockout :
    running.device ≠ .lockout ∧ running.inReset = false ∧
    (configured .lockout .none .voting .voting .voting .absent).device = .lockout := by decide +kernel

theorem witness_SupportRefusals :
    Takes running 0 0 [0x02#8, 0x00#8] ∧ parseSupport [0x02#8, 0x00#8] = some (.clearFault 0) ∧
    running.device ≠ .lockout ∧ running.device ≠ .unconfigured ∧ running.laneState 0 = .voting ∧
    running.fault 0 = .none ∧ running.laneState 3 ≠ .voting ∧ running.pendingRecord = none ∧
    (running.staging.row 0).state ≠ .sealed ∧ parseSupport [0x03#8, 0x01#8] = some (.readmit 1) ∧
    running.laneState 1 ≠ .excluded ∧ parseSupport [0x04#8] = some .resume ∧ running.device ≠ .safeHold := by
  decide +kernel

theorem witness_SupportRefusals_unconfigured :
    let s := withSealed { State.reset with lanes := State.reset.lanes.put 0 (laneIn .linked) } 0 9#32
    Takes s 0 0 (0x01#8 :: bytes32 9#32) ∧ s.device = .unconfigured ∧ s.laneState 0 = .linked ∧
    s.pendingRecord = none ∧ (s.staging.row 0).state = .sealed ∧ (s.staging.row 0).digest = some 9#32 ∧
    (Memory.read (s.staging.row 0).image 0).getLsbD 0 = false := by decide +kernel

/-- SAFE_HOLD with a RESUME ballot of lane 1 in slot 0. -/
def resuming : State := { holding with ballots := [⟨0, .resume, 0b0010#4, 77⟩] }

theorem witness_SupportBuildsTheBallot :
    Takes resuming 0 0 [0x04#8] ∧ parseSupport [0x04#8] = some .resume ∧ resuming.device ≠ .lockout ∧
    resuming.device ≠ .unconfigured ∧ resuming.laneState 0 = .voting ∧ resuming.laneState 1 = .voting ∧
    resuming.active = some ⟨record, 0x12345678#32⟩ ∧ resuming.device = .safeHold ∧ holding.device = .safeHold ∧
    holding.ballots = [] ∧ IndexSet.has (0b0010#4 : LaneSet) 1 = true ∧
    IndexSet.has (0b0010#4 : LaneSet) 0 = false := by decide +kernel

/-- UNCONFIGURED, lanes 0 to 2 LINKED, the image sealed by lanes 0 and 1, with a ballot of lane 1 for it in slot 0. -/
def bootstrap : State :=
  let sealedArea : StagingArea := ⟨image, .sealed, some 9#32, none⟩
  { State.reset with
    lanes := ⟨⟨[laneIn .linked, laneIn .linked, laneIn .linked, laneIn .absent]⟩, rfl⟩
    ballots := [⟨0, .commitConfig 9#32, 0b0010#4, 77⟩]
    staging := ⟨⟨[sealedArea, sealedArea, StagingArea.reset, StagingArea.reset]⟩, rfl⟩ }

theorem witness_SupportBuildsTheBallot_unconfigured :
    Takes bootstrap 0 0 (0x01#8 :: bytes32 9#32) ∧
    parseSupport (0x01#8 :: bytes32 9#32) = some (.commitConfig 9#32) ∧ bootstrap.device = .unconfigured ∧
    bootstrap.laneState 0 = .linked ∧ bootstrap.active = none ∧ bootstrap.pendingRecord = none ∧
    (bootstrap.staging.row 0).state = .sealed ∧ (bootstrap.staging.row 0).digest = some 9#32 ∧
    (Memory.read (bootstrap.staging.row 0).image 0).getLsbD 0 = true ∧
    imageByte (bootstrap.staging.row 0).image 1 = 2 ∧ imageWord (bootstrap.staging.row 0).image 7 = 500 := by
  decide +kernel

theorem witness_JoinByState_linked :
    Takes bootstrap 0 0 (bytes32 5#32) ∧ bootstrap.device ≠ .lockout ∧ bootstrap.laneState 0 = .linked := by
  decide +kernel

theorem bootstrap_ballotLaw : BallotLaw bootstrap := by unfold BallotLaw; decide +kernel

theorem bootstrap_membershipLaw : MembershipLaw bootstrap := by
  have linked : ∀ l, bootstrap.laneState l = .absent ∨ bootstrap.laneState l = .linked := by decide +kernel
  exact ⟨fun _ => rfl, fun _ _ => ⟨rfl, .inl rfl⟩, fun l h k => absurd (linked l) (by simp [h, k]), by decide +kernel⟩

theorem witness_FirstSwitchConfiguresThePart :
    (⟨0, .commitConfig 9#32, 0b0010#4, 77⟩ : Ballot) ∈ bootstrap.ballots ∧
    IndexSet.has (0b0010#4 : LaneSet) 0 = false ∧
    imageByte (bootstrap.staging.row 0).image 1 ≤ IndexSet.size (0b0010#4 : LaneSet) + 1 ∧
    (List.finRange 4).countP (fun m => decide (bootstrap.laneState m = .linked ∧
      record.enrolled.has m = true)) = 3 := by decide +kernel

theorem test_firstSwitch_runs :
    (after (.support 0 0 (0x01#8 :: bytes32 9#32)) bootstrap).map
        (fun t => (t.device, t.vote.openRound, t.laneState 0, t.laneState 2, t.ballots))
      = some (.running, .idle, .voting, .voting, []) := by decide +kernel

theorem witness_SupportBuildsTheBallot_law : BallotLaw resuming := by unfold BallotLaw; decide +kernel

theorem witness_PassedBallotIsCarriedOut :
    Takes resuming 0 0 [0x04#8] ∧ parseSupport [0x04#8] = some .resume ∧ resuming.laneState 0 = .voting ∧
    resuming.active = some ⟨record, 0x12345678#32⟩ ∧
    (⟨0, .resume, 0b0010#4, 77⟩ : Ballot) ∈ resuming.ballots ∧ IndexSet.has (0b0010#4 : LaneSet) 0 = false ∧
    record.quorum ≤ IndexSet.size (0b0010#4 : LaneSet) + 1 ∧ resuming.device = .safeHold := by decide +kernel

/-- RUNNING with a ballot of lane 1 in slot 0 and channel 0 in a fault state, lane 2 EXCLUDED. -/
def voted (action : BallotAction) : State :=
  let s := configured .running .idle .voting .voting .excluded .absent
  withSealed { s.setBlocks (s.toBlocks.setFault 0 .faulted) with ballots := [⟨0, action, 0b0010#4, 77⟩] } 0 9#32

theorem witness_PassedBallotIsCarriedOut_running :
    Takes (voted (.clearFault 0)) 0 0 [0x02#8, 0x00#8] ∧ (voted (.clearFault 0)).fault 0 ≠ .none ∧
    (voted (.clearFault 0)).device = .running ∧ (voted (.clearFault 0)).laneState 0 = .voting ∧
    Takes (voted (.readmit 2)) 0 0 [0x03#8, 0x02#8] ∧ (voted (.readmit 2)).laneState 2 = .excluded ∧
    parseSupport [0x03#8, 0x02#8] = some (.readmit 2) := by decide +kernel

theorem witness_PassedBallotIsCarriedOut_safeHold :
    let s := { voted (.readmit 2) with device := .safeHold }
    let u := { voted (.clearFault 0) with device := .safeHold }
    Takes s 0 0 [0x03#8, 0x02#8] ∧ s.laneState 0 = .voting ∧ s.laneState 2 = .excluded ∧ s.device = .safeHold ∧
    Takes u 0 0 [0x02#8, 0x00#8] ∧ u.fault 0 ≠ .none ∧ u.device ≠ .unconfigured ∧ u.device ≠ .lockout ∧
    parseSupport [0x02#8, 0x00#8] = some (.clearFault 0) := by decide +kernel

theorem witness_CommitCopiesTheImage :
    let s := voted (.commitConfig 9#32)
    Takes s 0 0 (0x01#8 :: bytes32 9#32) ∧ s.laneState 0 = .voting ∧ s.active = some ⟨record, 0x12345678#32⟩ ∧
    s.pendingRecord = none ∧ (⟨0, .commitConfig 9#32, 0b0010#4, 77⟩ : Ballot) ∈ s.ballots ∧
    record.quorum ≤ IndexSet.size (0b0010#4 : LaneSet) + 1 ∧ (s.staging.row 0).state = .sealed ∧
    (s.staging.row 0).digest = some 9#32 ∧ IndexSet.has (0b0010#4 : LaneSet) 0 = false ∧ s.device = .running ∧
    ({ s with device := .safeHold } : State).device = .safeHold := by decide +kernel

theorem witness_MembershipAndBallotExpiries_lifetime :
    let s := { resuming with ballots := [⟨0, .resume, 0b0010#4, 0⟩] }
    BallotLaw s ∧ (⟨0, .resume, 0b0010#4, 0⟩ : Ballot) ∈ s.ballots ∧ s.timer (.lifetime 0) = some 0 :=
  ⟨by unfold BallotLaw; decide +kernel, by decide +kernel, by decide +kernel⟩

theorem witness_StageWriteByState :
    Takes running 0 0 [0x01#8, 0xBF#8, 0xAA#8] ∧ Memory.wf (running.staging.row 0).image ∧
    running.device ≠ .lockout ∧ (running.staging.row 0).state = .opened ∧
    (0x01#8 : Byte).toNat * 256 + (0xBF#8 : Byte).toNat + 1 ≤ 448 ∧
    448 < (0x01#8 : Byte).toNat * 256 + (0xBF#8 : Byte).toNat + 2 := by decide +kernel

theorem witness_SealBeginsAndCompletes :
    Takes running 0 0 [] ∧ running.device ≠ .lockout ∧ (running.staging.row 0).state = .opened ∧
    ((withSealed running 0 9#32).staging.row 0).state = .sealed ∧
    ((withSealed running 0 9#32).staging.row 0).digest = some 9#32 := by decide +kernel

/-- Lane 0's valid image, its seal in flight, with the reservation that stands for it. -/
def sealingState : State :=
  (running.setStaging 0 ⟨image, .sealing, none, some 3⟩).setPort 0
    { running.ports.row 0 with queue := [.reservation 0x08#8 4] }

theorem witness_SealBeginsAndCompletes_completion :
    sealingState.timer (.sealing 0) = some 3 ∧ validate (sealingState.staging.row 0).image = none ∧
    (sealingState.ports.row 0).queue = [] ++ ResponseSlot.reservation 0x08#8 4 :: [] ∧
    validate [] = some ⟨.enrolled, 0⟩ := by decide +kernel

theorem witness_StageOpenByState :
    let s := { withSealed running 0 9#32 with ballots := [⟨0, .commitConfig 9#32, 0b0011#4, 77⟩] }
    Takes s 0 0 [] ∧ s.device ≠ .lockout ∧ (s.staging.row 0).state = .sealed ∧
    (s.staging.row 0).digest = some 9#32 ∧ (∀ x ∈ s.ballots, x.supporters ≠ 0) ∧
    IndexSet.has (0b0011#4 : LaneSet) 1 = true := by decide +kernel

theorem witness_ReadStagingReturnsTheArea :
    Takes running 0 0 [byte 3] ∧ Takes running 0 0 [byte 0, 0x01#8, 0xBF#8, 0x01#8] ∧
    (0x01#8 : Byte).toNat * 256 + (0xBF#8 : Byte).toNat + (0x01#8 : Byte).toNat ≤ 448 ∧
    448 < (0x01#8 : Byte).toNat * 256 + (0xBF#8 : Byte).toNat + (0x02#8 : Byte).toNat := by decide +kernel

theorem witness_FetchTakesTheOldestUnread :
    Takes waiting 0 0 [6] ∧ waiting.laneState 0 ≠ .absent ∧
    waiting.notices.readers.row 0 = some ⟨0, false⟩ ∧ NoticeLaw waiting ∧ waiting.laneState 3 = .absent :=
  ⟨by decide +kernel, by decide +kernel, by decide +kernel, witness_NoticeLawKept.1, by decide +kernel⟩

/-- A full queue, numbered 0 to 47, with lane 0 at its oldest entry and lane 1 past its newest. -/
def crowded : NoticeUnit :=
  { queue := (List.range 48).map (fun i => ⟨BitVec.ofNat 16 i, 7, .stateChange .running .safeHold .quorumLost⟩)
    next := 48
    readers := ((Table.fill 4 none).put 0 (some ⟨0, false⟩)).put 1 (some ⟨48, false⟩) }

theorem witness_FetchTakesTheOldestUnread_full :
    (∀ m, crowded.unread m ≤ crowded.queue.length) ∧ 48 ≤ crowded.queue.length ∧
    (crowded.queue.map Notice.seq).take 2 = [0, 1] := by decide +kernel

/-- 09 R153: lane 0 loses entry 0, lane 1 loses nothing; R154: all 48 leave with lane 0, and stay with the last reader. -/
theorem test_overflow_and_removal :
    let t := crowded.post 9 (.stateChange .safeHold .running .resumed)
    t.readers.row 0 = some ⟨1, true⟩ ∧ t.readers.row 1 = some ⟨48, false⟩ ∧ t.queue.length = 48 ∧ t.next = 49 ∧
    (crowded.leaveReader 0).queue = [] ∧ ((crowded.leaveReader 1).leaveReader 0).queue.length = 48 ∧
    (crowded.joinReader 2).readers.row 2 = some ⟨48, false⟩ ∧ (crowded.joinReader 2).queue.length = 48 := by
  decide +kernel

/-- An entry: MEMBER_CHANGE of lane 2, VOTING to SUSPECT, LEASE_EXPIRED, number 258, stamp 7. -/
theorem test_entry_bytes :
    (Notice.mk 258#16 7#16 (.memberChange 2 .voting .suspect .leaseExpired)).bytes
      = [0x01#8, 0x02#8, 0x07#8, 0x00#8, 0x07#8, 0x04#8, 0x02#8, 0x04#8, 0x05#8, 0x04#8] := by decide +kernel

theorem witness_ReadStatusReportsTheState : Takes running 0 0 [] ∧ running.active = some ⟨record, 0x12345678#32⟩ := by
  decide +kernel

theorem witness_ReadChannelsReportsTheChannels :
    Takes running 0 0 [32, 32] ∧ (32#8 : Byte).toNat + (32#8 : Byte).toNat ≤ 64 ∧ Takes running 0 0 [63, 2] ∧
    64 < (63#8 : Byte).toNat + (2#8 : Byte).toNat := by decide +kernel

theorem witness_ReadBallotsListsTheTable :
    Takes resuming 0 0 [] ∧ resuming.ballots[0]? = some ⟨0, .resume, 0b0010#4, 77⟩ := by decide +kernel

end Sys2Proof.Machine.Tests
end

section
/-! # What one step does to the blocks

Every law about the blocks is kept by a step once it is kept by the events listed here. -/

namespace Sys2Proof.Machine

/-- The blocks a step leaves, by the event that brought them about; staging areas and ports are apart. -/
inductive BlocksEvent (s : State) : Blocks → Prop
  /-- Nothing that concerns the blocks. -/
  | unchanged : BlocksEvent s s.toBlocks
  /-- A reset (05 R92, R93). -/
  | reset (record : Option LockoutRecord) : BlocksEvent s { Blocks.reset with lockoutRecord := record }
  /-- A request taken by its owner (10 R171). -/
  | handled (l : Lane) (kind : Byte) (payload : List Byte) (evalB : Option Evaluation) :
      BlocksEvent s (handlerOf l kind payload evalB s.toBlocks s.staging).blocks
  /-- A due timer expires. -/
  | expired (n : TimerName) (evalB : Option Evaluation) (due : s.timer n = some 0) :
      BlocksEvent s (s.expire evalB n).toBlocks
  /-- A change of a readback level (08 R134). -/
  | readback (c : Channel) (level : ReadbackLevel) : BlocksEvent s (s.toBlocks.readbackChanges c level)
  /-- A store check failure (05 R85, R87). -/
  | storeCheck (h : s.device ≠ .lockout) : BlocksEvent s (s.toBlocks.enterLockout .storeCheck)
  /-- One ms passes. -/
  | later : BlocksEvent s s.toBlocks.timersLater

namespace BlocksEvent

variable {s : State}

/-- An event on blocks that another event did not touch. -/
theorem of_eq {b d : Blocks} (h : BlocksEvent s b) (e : d = b) : BlocksEvent s d := e ▸ h

theorem receive (l : Lane) (k q : Byte) (p : List Byte) (kind : Byte) (payload : List Byte)
    (evalB : Option Evaluation) :
    BlocksEvent s (s.receive l k q p (handlerOf l kind payload evalB)).toBlocks := by
  rcases s.receive_cases l k q p (handlerOf l kind payload evalB) with h | ⟨o, h⟩ | h
  · exact unchanged.of_eq (by rw [h])
  · exact unchanged.of_eq (by rw [h]; rfl)
  · exact (handled l kind payload evalB).of_eq (by rw [h]; rfl)

theorem receiveLinkReset (l : Lane) (k q : Byte) (p : List Byte) :
    BlocksEvent s (s.receiveLinkReset l k q p).toBlocks := by
  refine unchanged.of_eq ?_
  unfold State.receiveLinkReset
  split
  · rfl
  · split <;> rfl

theorem takeFrame (l : Lane) (f : RequestFrame) (evalB : Option Evaluation) :
    BlocksEvent s (s.takeFrame l f evalB).toBlocks := by
  unfold State.takeFrame
  split
  · exact receiveLinkReset ..
  · exact receive ..

theorem judgeBytes (l : Lane) (bs : List Byte) (evalB : Option Evaluation) :
    BlocksEvent s (s.judgeBytes l bs evalB).toBlocks := by
  unfold State.judgeBytes
  split
  · exact unchanged
  · split
    · exact unchanged
    · exact unchanged
    · exact takeFrame ..

theorem beginTransaction (l : Lane) : BlocksEvent s (s.beginTransaction l).toBlocks := by
  refine unchanged.of_eq ?_
  unfold State.beginTransaction
  split <;> rfl

/-- The blocks an event may leave depend on blocks, staging areas and due timers alone. -/
theorem of_sameInside {r : State} {b : Blocks} (h : BlocksEvent r b) (blocks : r.toBlocks = s.toBlocks)
    (staging : r.staging = s.staging) (power : r.power = s.power) : BlocksEvent s b := by
  have inReset : r.inReset = s.inReset := by simp only [State.inReset, power]
  cases h with
  | unchanged => exact unchanged.of_eq blocks
  | reset record => exact reset record
  | handled l kind payload evalB => exact (handled l kind payload evalB).of_eq (by rw [blocks, staging])
  | expired n evalB due =>
    have timer : s.timer n = some 0 := by
      rw [← due]
      cases n <;> simp only [State.timer, inReset, blocks, staging]
    refine (expired n evalB timer).of_eq ?_
    cases n with
    | lifetime slot =>
      simp only [State.expire, blocks]
      split <;> simp [blocks]
    | _ => simp [State.expire, blocks]
  | readback c level => exact (readback c level).of_eq (by rw [blocks])
  | storeCheck h => exact (storeCheck (blocks ▸ h)).of_eq (by rw [blocks])
  | later => exact later.of_eq (by rw [blocks])

theorem endTransaction (l : Lane) (bs : List Byte) (evalB : Option Evaluation) :
    BlocksEvent s (s.endTransaction l bs evalB).toBlocks := by
  unfold State.endTransaction
  split
  · exact unchanged
  · exact unchanged
  · split
    · exact unchanged
    · exact (judgeBytes l bs evalB).of_sameInside rfl rfl rfl

theorem expireNow (n : TimerName) (evalB : Option Evaluation) :
    BlocksEvent s (s.expireNow n evalB).toBlocks := by
  unfold State.expireNow
  split
  · rename_i due
    exact expired n evalB due
  · exact unchanged

theorem completeNow (l : Lane) : BlocksEvent s (s.completeNow l).toBlocks := by
  refine unchanged.of_eq ?_
  unfold State.completeNow
  split <;> rfl

theorem idle : BlocksEvent s s.idle.toBlocks := by
  unfold State.idle
  simp only
  split
  · exact unchanged
  · split
    · exact expireNow ..
    · exact later

end BlocksEvent

/-- What a command does to the blocks. -/
theorem exec_blocksEvent {i : Instr} {s t : State} (h : exec i s = .next t) : BlocksEvent s t.toBlocks := by
  cases i
  case powerOnReset => cases h; exact .reset none
  case brownOut => cases h; exact .reset none
  case rstnAssert => cases h; exact .reset s.lockoutRecord
  case powerOnResetEnd =>
    simp only [exec, execPowerOnResetEnd] at h
    split at h <;> cases h
    · exact .reset none
    · exact .unchanged
  case rstnRelease =>
    simp only [exec, execRstnRelease] at h
    split at h <;> cases h
    · exact .reset s.lockoutRecord
    · exact .unchanged
  case chipSelectAssert l => cases h; exact .beginTransaction l
  case chipSelectRelease l bs e => cases h; exact .endTransaction l bs e
  case join l q p => cases h; exact .receive l 0x01#8 q p 0x01#8 p none
  case leave l q p e => cases h; exact .receive l 0x02#8 q p 0x02#8 p e
  case keepalive l q p => cases h; exact .receive l 0x03#8 q p 0x03#8 p none
  case propose l q p e => cases h; exact .receive l 0x04#8 q p 0x04#8 p e
  case veto l q p => cases h; exact .receive l 0x05#8 q p 0x05#8 p none
  case support l q p => cases h; exact .receive l 0x06#8 q p 0x06#8 p none
  case stageWrite l q p => cases h; exact .receive l 0x07#8 q p 0x07#8 p none
  case stageSeal l q p => cases h; exact .receive l 0x08#8 q p 0x08#8 p none
  case stageOpen l q p => cases h; exact .receive l 0x09#8 q p 0x09#8 p none
  case readStaging l q p => cases h; exact .receive l 0x0A#8 q p 0x0A#8 p none
  case fetchNotices l q p => cases h; exact .receive l 0x0B#8 q p 0x0B#8 p none
  case readStatus l q p => cases h; exact .receive l 0x0C#8 q p 0x0C#8 p none
  case readChannels l q p => cases h; exact .receive l 0x0D#8 q p 0x0D#8 p none
  case readBallots l q p => cases h; exact .receive l 0x0E#8 q p 0x0E#8 p none
  case linkReset l q p => cases h; exact .receiveLinkReset l 0x0F#8 q p
  case unknownRequestKind l k q p => cases h; exact .receive l k q p 0x00#8 p none
  case roundDeadlineExpiry e => cases h; exact .expireNow .deadline e
  case leaseExpiry l e => cases h; exact .expireNow (.lease l) e
  case graceExpiry l => cases h; exact .expireNow (.grace l) none
  case ballotLifetimeExpiry slot => cases h; exact .expireNow (.lifetime slot) none
  case sealCompletion l => cases h; exact .completeNow l
  case settleExpiry c => cases h; exact .expireNow (.settle c) none
  case mismatchTimerExpiry c => cases h; exact .expireNow (.mismatch c) none
  case readbackLevelChange c level =>
    simp only [exec, execReadbackLevelChange] at h
    split at h <;> cases h
    · exact .unchanged
    · exact .readback c level
  case scrubRecheck record agrees =>
    simp only [exec, execScrubRecheck] at h
    split at h
    · cases h; exact .unchanged
    · rename_i guard
      cases h
      exact .storeCheck (fun lockout => guard (.inr (.inr lockout)))

/-- What a step does to the blocks: the command at the front of the queue, or an idle step. -/
theorem step_blocksEvent {s t : State} (h : step s = .next t) : BlocksEvent s t.toBlocks := by
  unfold step at h
  split at h
  · cases h; exact .idle
  · exact (exec_blocksEvent h).of_sameInside rfl rfl rfl

end Sys2Proof.Machine
end

section
/-! # The output stage, one channel at a time

The output of a channel after each update of the output stage, and what its drive and its mismatch timer depend on. -/

namespace Sys2Proof.Machine

namespace Blocks

/-! ## The output of a channel after an update -/

@[simp] theorem channelOutput_setChannelOutput_self (b : Blocks) (c : Channel) (o : ChannelOutput) :
    (b.setChannelOutput c o).channelOutput c = o := by
  simp [channelOutput]

@[simp] theorem channelOutput_setChannelOutput_of_ne (b : Blocks) {c d : Channel} (h : d ≠ c) (o : ChannelOutput) :
    (b.setChannelOutput c o).channelOutput d = b.channelOutput d := by
  simp [channelOutput, Table.row_put_of_ne _ h.symm]

@[simp] theorem channelOutput_setFault_self (b : Blocks) (c : Channel) (f : FaultState) :
    (b.setFault c f).channelOutput c = { b.channelOutput c with fault := f } :=
  channelOutput_setChannelOutput_self ..

@[simp] theorem channelOutput_setFault_of_ne (b : Blocks) {c d : Channel} (h : d ≠ c) (f : FaultState) :
    (b.setFault c f).channelOutput d = b.channelOutput d :=
  channelOutput_setChannelOutput_of_ne b h _

@[simp] theorem channelOutput_refreshChannel_self (b : Blocks) (c : Channel) :
    (b.refreshChannel c).channelOutput c = b.refreshedOutput c :=
  channelOutput_setChannelOutput_self ..

@[simp] theorem channelOutput_refreshChannel_of_ne (b : Blocks) {c d : Channel} (h : d ≠ c) :
    (b.refreshChannel c).channelOutput d = b.channelOutput d :=
  channelOutput_setChannelOutput_of_ne b h _

@[simp] theorem channelOutput_refreshOutputs (b : Blocks) (c : Channel) :
    b.refreshOutputs.channelOutput c = b.refreshedOutput c := by
  simp [channelOutput]

@[simp] theorem channelOutput_post (b : Blocks) (body : NoticeBody) (c : Channel) :
    (b.post body).channelOutput c = b.channelOutput c := rfl

@[simp] theorem channelOutput_updateFailn (b : Blocks) (c : Channel) :
    b.updateFailn.channelOutput c = b.channelOutput c := rfl

/-! ## What drives and supervision depend on -/

theorem vetoed_congr_vetoes {b d : Blocks} (h : b.output.vetoes = d.output.vetoes) (c : Channel) :
    b.vetoed c = d.vetoed c := by
  unfold vetoed; rw [h]

theorem agreed_congr {b d : Blocks} (h : b.vote.channels = d.vote.channels) (c : Channel) :
    b.agreed c = d.agreed c := by
  unfold agreed; rw [h]

/-- A drive depends on whether the device is RUNNING, on the channel's own agreed value and fault state, and on the vetoes
(01 R8). -/
theorem driveOf_congr_channel {b d : Blocks} {c : Channel} (running : b.device = .running ↔ d.device = .running)
    (active : b.active = d.active) (agreed : b.agreed c = d.agreed c) (fault : b.fault c = d.fault c)
    (vetoes : b.output.vetoes = d.output.vetoes) : b.driveOf c = d.driveOf c := by
  simp only [driveOf, channelType_congr active, fallback_congr active, vetoed_congr_vetoes vetoes, running, agreed,
    fault]

/-- Outside RUNNING, and in a fault state, a channel is driven to its fallback value (01 R8). -/
theorem driveOf_fallback (b : Blocks) (c : Channel) (used : b.channelType c ≠ .unused)
    (h : b.device ≠ .running ∨ b.fault c ≠ .none) : b.driveOf c = ⟨b.channelType c, b.fallback c⟩ := by
  have barred : ¬ (b.device = .running ∧ b.fault c = .none ∧ b.vetoed c = false) := fun all =>
    h.elim (· all.1) (· all.2.1)
  unfold driveOf
  split
  · contradiction
  · rw [if_neg barred]

theorem mismatchRuns_congr {b d : Blocks} (active : b.active = d.active) (c : Channel) (o : ChannelOutput) :
    b.mismatchRuns c o = d.mismatchRuns c o := by
  simp only [mismatchRuns, supervised, channelType_congr active, entry_congr active]

@[simp] theorem mismatchRuns_superviseOutput (b : Blocks) (c : Channel) (o : ChannelOutput) :
    b.mismatchRuns c (b.superviseOutput c o) = b.mismatchRuns c o := rfl

/-- Supervision leaves the mismatch timer running exactly under the conditions of 08 R137. -/
@[simp] theorem isSome_mismatch_superviseOutput (b : Blocks) (c : Channel) (o : ChannelOutput) :
    (b.superviseOutput c o).mismatch.isSome = b.mismatchRuns c o := by
  unfold superviseOutput
  cases b.mismatchRuns c o <;> cases o.mismatch <;> rfl

theorem mismatch_superviseOutput_of_not (b : Blocks) (c : Channel) (o : ChannelOutput)
    (h : b.mismatchRuns c o = false) : (b.superviseOutput c o).mismatch = none := by
  simp [superviseOutput, h]

theorem mismatchRuns_unsafeState (b : Blocks) (c : Channel) (o : ChannelOutput) (h : o.fault = .unsafeState) :
    b.mismatchRuns c o = false := by
  simp [mismatchRuns, h]

end Blocks

@[simp] theorem ChannelOutput.driveTo_mismatch (o : ChannelOutput) (d : Drive) (t : Nat) :
    (o.driveTo d t).mismatch = o.mismatch := by
  unfold driveTo
  split <;> rfl

end Sys2Proof.Machine
end

section
/-! # Values within the domain of a type

The fallback values of a valid image, the values a PROPOSE stores, and the values an evaluation resolves lie within the
domain of the channel's type (01 R2). -/

namespace Sys2Proof.Machine

/-! ## Fallback values of a valid image (07 R119) -/

/-- An entry in range has its fallback value within the domain of its type (01 R3). -/
theorem fallback_le_of_entryInRange {e : ChannelEntry} (h : entryInRange e = true) :
    e.fallback ≤ domainMax e.type := by
  unfold entryInRange at h
  cases ht : e.type <;> simp_all [domainMax]

theorem eq_none_of_firstFailure {checks : List (Option InvalidConfig)} (h : firstFailure checks = none)
    {x : Option InvalidConfig} (hx : x ∈ checks) : x = none := by
  induction checks with
  | nil => cases hx
  | cons y rest ih =>
    cases y with
    | some f => cases h
    | none =>
      rcases List.mem_cons.mp hx with rfl | hx
      · rfl
      · exact ih h hx

/-- A valid image passes check 8 of 07 R119 for every channel. -/
theorem channelValid_of_validate {m : Memory} (h : validate m = none) (c : Channel) :
    channelValid m c.val = true := by
  have listed : (if channelValid m c.val then none else some ⟨.channel, c.val⟩ : Option InvalidConfig) ∈
      (List.range 64).map (fun c => if channelValid m c then none else some ⟨.channel, c⟩) :=
    List.mem_map_of_mem (List.mem_range.mpr c.isLt)
  have passed := eq_none_of_firstFailure h (List.mem_append_left _ (List.mem_append_left _
    (List.mem_append_right _ listed)))
  cases valid : channelValid m c.val with
  | true => rfl
  | false =>
    rw [valid, if_neg (by decide)] at passed
    cases passed

/-- The record decoded from a valid image has every fallback value within its domain. -/
theorem fallback_le_of_validate {m : Memory} (h : validate m = none) (c : Channel) :
    ((decodeConfig m).entries.row c).fallback ≤ domainMax ((decodeConfig m).entries.row c).type := by
  have valid := channelValid_of_validate h c
  unfold channelValid at valid
  simp only [decodeConfig, Table.row_build]
  split at valid
  · cases valid
  · rename_i t known
    rw [known]
    exact fallback_le_of_entryInRange valid

/-! ## Values a PROPOSE stores (02 R19, R21) -/

/-- The entries that pass the check of a list are none of them bad (02 R21, 08 R129). -/
theorem Blocks.not_bad_of_checkEntries {α : Type} {bad : Channel → α → Bool} {i : Nat} {seen : List Channel}
    {entries : List (Nat × α)} {good : List (Channel × α)}
    (h : Blocks.checkEntries bad i seen entries = .inr good) {c : Channel} {x : α} (hx : (c, x) ∈ good) :
    bad c x = false := by
  induction entries generalizing i seen good with
  | nil => cases h; cases hx
  | cons e rest ih =>
    unfold Blocks.checkEntries at h
    split at h
    · cases h
    · split at h
      · cases h
      · rename_i passed
        split at h
        · cases h
        · rename_i tested
          cases h
          rcases List.mem_cons.mp hx with e | hx
          · cases e
            simp_all
          · exact ih tested hx

/-- A stored value stands in the list it was stored from (02 R19). -/
theorem Blocks.mem_of_proposalRow {entries : List (Channel × Nat)} {c : Channel} {v : Nat}
    (h : (Blocks.proposalRow entries).row c = some v) : (c, v) ∈ entries := by
  induction entries with
  | nil => simp [Blocks.proposalRow, ProposalRow.empty] at h
  | cons e rest ih =>
    obtain ⟨d, w⟩ := e
    simp only [Blocks.proposalRow, Table.row_put] at h
    split at h
    · simp_all
    · exact List.mem_cons_of_mem _ (ih h)

/-- A value that is not bad lies within the domain (02 R21). -/
theorem Blocks.le_domainMax_of_not_bad {b : Blocks} {c : Channel} {v : Nat} (h : b.badProposal c v = false) :
    v ≤ domainMax (b.channelType c) := by
  unfold Blocks.badProposal at h
  cases ht : b.channelType c <;> simp_all [domainMax]

/-! ## Values an evaluation resolves (02 R28 to R32, 03 R46) -/

theorem mem_insertSorted {v w : Nat} {values : List Nat} (h : w ∈ insertSorted v values) :
    w = v ∨ w ∈ values := by
  induction values with
  | nil => simpa [insertSorted] using h
  | cons x rest ih =>
    unfold insertSorted at h
    split at h
    · simpa using h
    · rcases List.mem_cons.mp h with rfl | h
      · simp
      · rcases ih h with h | h <;> simp [h]

theorem mem_of_mem_sortValues {w : Nat} {values : List Nat} (h : w ∈ sortValues values) : w ∈ values := by
  induction values with
  | nil => exact h
  | cons v rest ih =>
    rcases mem_insertSorted h with rfl | h
    · exact List.mem_cons_self
    · exact List.mem_cons_of_mem _ (ih h)

/-- The median is one of the values (02 R30). -/
theorem median_mem {m : Nat} {values : List Nat} (h : median values = some m) : m ∈ values :=
  mem_of_mem_sortValues (List.mem_of_getElem? h)

theorem judgeDiscrete_agreed_le {quorum v : Nat} {values : List Nat}
    (h : judgeDiscrete quorum values = .agreed v) : v ≤ 1 := by
  unfold judgeDiscrete at h
  split at h
  · cases h; exact Nat.le_refl 1
  · split at h <;> cases h
    exact Nat.zero_le 1

theorem judgeLevel_agreed_mem {quorum tolerance v : Nat} {values : List Nat}
    (h : judgeLevel quorum tolerance values = .agreed v) : v ∈ values := by
  unfold judgeLevel at h
  split at h
  · cases h
  · rename_i m found
    split at h <;> cases h
    exact median_mem found

namespace Blocks

/-- A present value was proposed by some lane (02 R28). -/
theorem proposed_of_present {b : Blocks} {c : Channel} {v : Nat} (h : v ∈ (b.presentValues c).map Prod.snd) :
    ∃ l, (b.vote.proposals.row l).row c = some v := by
  simp only [presentValues, List.mem_map, List.mem_filterMap, Option.map_eq_some_iff] at h
  obtain ⟨-, ⟨l, -, w, proposed, rfl⟩, rfl⟩ := h
  exact ⟨l, proposed⟩

/-- Of a channel in use whose proposed values lie within its domain, an AGREED value does. -/
theorem outcomeOf_agreed_le {b : Blocks} {c : Channel} {v : Nat}
    (proposals : ∀ l v, (b.vote.proposals.row l).row c = some v → v ≤ domainMax (b.channelType c))
    (h : b.outcomeOf c = .agreed v) : v ≤ domainMax (b.channelType c) := by
  unfold outcomeOf at h
  cases ht : b.channelType c <;> rw [ht] at h proposals
  · cases h
  · exact judgeDiscrete_agreed_le h
  · obtain ⟨l, proposed⟩ := proposed_of_present (judgeLevel_agreed_mem h)
    exact proposals l v proposed

variable {b : Blocks} (c : Channel)
  (fallback : b.fallback c ≤ domainMax (b.channelType c)) (agreed : b.agreed c ≤ domainMax (b.channelType c))
  (proposals : ∀ l v, (b.vote.proposals.row l).row c = some v → v ≤ domainMax (b.channelType c))

include fallback agreed proposals

/-- The candidate value lies within the domain: it is the AGREED value, the held value or the fallback value (02 R28, R31,
R32). -/
theorem candidate_le : b.candidate c ≤ domainMax (b.channelType c) := by
  unfold candidate
  split
  · exact Nat.zero_le _
  · rename_i v outcome
    exact outcomeOf_agreed_le proposals outcome
  · split
    · exact agreed
    · exact fallback

/-- The resolved value lies within the domain: it is the candidate or the previous agreed value (03 R46). -/
theorem resolved_le : (b.evaluateChannel c).resolved ≤ domainMax (b.channelType c) := by
  simp only [evaluateChannel, resolvedValue]
  split
  · exact candidate_le c fallback agreed proposals
  · exact agreed

/-- A commit of the evaluation writes an agreed value within the domain (02 R35). -/
theorem committedRecord_agreed_le : (b.committedRecord b.evaluate c).agreed ≤ domainMax (b.channelType c) := by
  have resolved := resolved_le c fallback agreed proposals
  unfold committedRecord
  rw [evaluate_channels]
  simp only
  split
  · exact agreed
  · exact resolved
  · exact resolved

end Blocks

end Sys2Proof.Machine
end

section
/-! # The drive law on the blocks

`Driven` is DriveLaw of the blocks, strengthened by what its preservation needs of configuration and round. It splits in
the inputs (`InDomain`) and, channel by channel, the output (`ChannelDriven`), so that an event which writes inputs and
then recomputes the outputs restores it whatever the outputs were before. -/

namespace Sys2Proof.Machine

/-! ## The invariant -/

/-- The inputs of the output stage: configuration, agreed image, and the values the open round may still bring. -/
structure InDomain (b : Blocks) : Prop where
  fallback_le : ∀ c, b.fallback c ≤ domainMax (b.channelType c)
  pending_valid : ∀ p, b.pendingRecord = some p → validate p.image = none
  agreed_le : ∀ c, b.agreed c ≤ domainMax (b.channelType c)
  running_of_collecting : b.vote.openRound = .collecting → b.device = .running
  proposals_le : b.device = .running → ∀ l c v, (b.vote.proposals.row l).row c = some v →
    v ≤ domainMax (b.channelType c)

/-- The line of a channel shows its drive value (08 R133). -/
abbrev LineShowsDrive (o : ChannelOutput) : Prop := o.line = o.drive.line

/-- A channel is driven by the table of 01 R8 and supervised by 08 R137. -/
structure ChannelDriven (b : Blocks) (c : Channel) : Prop where
  drive_eq : (b.channelOutput c).drive = b.driveOf c
  line_eq : LineShowsDrive (b.channelOutput c)
  mismatch_isSome : (b.channelOutput c).mismatch.isSome = b.mismatchRuns c (b.channelOutput c)

/-- The drive law of the blocks. -/
structure Driven (b : Blocks) : Prop where
  inDomain : InDomain b
  channel : ∀ c, ChannelDriven b c

/-- Every lane's row of the proposal table is empty, as a round that opens finds it (02 R17). -/
def NothingProposed (b : Blocks) : Prop := ∀ l c, (b.vote.proposals.row l).row c = none

/-- The parts of the blocks that the drive law speaks of are the same. -/
def SameDrives (d b : Blocks) : Prop :=
  d.device = b.device ∧ d.active = b.active ∧ d.pendingRecord = b.pendingRecord ∧ d.vote = b.vote ∧
    d.output = b.output

/-! ## Which parts of the blocks each law depends on -/

/-- The inputs depend on device state, configuration, pending record and vote engine alone. -/
theorem InDomain.congr {b d : Blocks} (h : InDomain b) (device : d.device = b.device) (active : d.active = b.active)
    (pending : d.pendingRecord = b.pendingRecord) (vote : d.vote = b.vote) : InDomain d where
  fallback_le c := by rw [Blocks.fallback_congr active, Blocks.channelType_congr active]; exact h.fallback_le c
  pending_valid := by rw [pending]; exact h.pending_valid
  agreed_le c := by
    rw [Blocks.agreed_congr (congrArg _ vote), Blocks.channelType_congr active]; exact h.agreed_le c
  running_of_collecting := by rw [vote, device]; exact h.running_of_collecting
  proposals_le := by
    rw [vote, device]
    intro running l c
    rw [Blocks.channelType_congr active]
    exact h.proposals_le running l c

theorem ChannelDriven.congr {b d : Blocks} {c : Channel} (h : ChannelDriven b c) (drive : d.driveOf c = b.driveOf c)
    (active : d.active = b.active) (output : d.channelOutput c = b.channelOutput c) : ChannelDriven d c where
  drive_eq := by rw [output, drive]; exact h.drive_eq
  line_eq := by rw [output]; exact h.line_eq
  mismatch_isSome := by rw [output, Blocks.mismatchRuns_congr active]; exact h.mismatch_isSome

theorem Driven.congr {b d : Blocks} (h : Driven b) (same : SameDrives d b) : Driven d := by
  obtain ⟨device, active, pending, vote, output⟩ := same
  exact ⟨h.inDomain.congr device active pending vote, fun c => (h.channel c).congr
    (Blocks.driveOf_congr active device vote output c) active (Blocks.channelOutput_congr output c)⟩

/-- The vote engine may change all but the agreed image without touching a drive. -/
theorem Driven.of_sameAgreed {b d : Blocks} (h : Driven b) (inDomain : InDomain d)
    (running : d.device = .running ↔ b.device = .running) (active : d.active = b.active)
    (agreed : d.vote.channels = b.vote.channels) (output : d.output = b.output) : Driven d :=
  ⟨inDomain, fun c => (h.channel c).congr
    (Blocks.driveOf_congr_channel running active (Blocks.agreed_congr agreed c)
      (congrArg ChannelOutput.fault (Blocks.channelOutput_congr output c)) (congrArg _ output))
    active (Blocks.channelOutput_congr output c)⟩

theorem InDomain.driveOf_le {b : Blocks} (h : InDomain b) (c : Channel) :
    (b.driveOf c).value ≤ domainMax (b.driveOf c).type := by
  unfold Blocks.driveOf
  split
  · exact Nat.le_refl 0
  · split
    · exact h.agreed_le c
    · exact h.fallback_le c

/-! ## Recomputing outputs -/

theorem lineShowsDrive_refreshedOutput {b : Blocks} {c : Channel} (line : LineShowsDrive (b.channelOutput c)) :
    LineShowsDrive (b.refreshedOutput c) := by
  simpa [LineShowsDrive, Blocks.refreshedOutput] using
    Blocks.driveTo_line _ (b.driveOf c) (b.entry c).settleTime line

/-- A channel recomputed is driven by the table and supervised, whatever it was driven by before (01 R10). -/
theorem channelDriven_of_refreshed {b d : Blocks} {c : Channel} (line : LineShowsDrive (b.channelOutput c))
    (output : d.channelOutput c = b.refreshedOutput c) (drive : d.driveOf c = b.driveOf c)
    (active : d.active = b.active) : ChannelDriven d c where
  drive_eq := by rw [output, drive, Blocks.refreshedOutput_drive]
  line_eq := by
    rw [output]
    exact lineShowsDrive_refreshedOutput line
  mismatch_isSome := by
    rw [output, Blocks.mismatchRuns_congr active]
    simp [Blocks.refreshedOutput]

theorem driveOf_refreshOutputs (b : Blocks) (c : Channel) : b.refreshOutputs.driveOf c = b.driveOf c :=
  Blocks.driveOf_congr_channel Iff.rfl rfl rfl (Blocks.fault_refreshOutputs b c) rfl

/-- The recomputation of every channel restores the law (01 R9, R10). -/
theorem driven_refreshOutputs {b : Blocks} (h : InDomain b) (lines : ∀ c, LineShowsDrive (b.channelOutput c)) :
    Driven b.refreshOutputs :=
  ⟨h.congr rfl rfl rfl rfl, fun c => channelDriven_of_refreshed (lines c) (Blocks.channelOutput_refreshOutputs b c)
    (driveOf_refreshOutputs b c) rfl⟩

/-! ## Events of one channel -/

/-- The law of every channel but one, of which only the line is known: what holds while an event of that channel is under
way. -/
structure DrivenBut (b : Blocks) (c : Channel) : Prop where
  inDomain : InDomain b
  line_eq : LineShowsDrive (b.channelOutput c)
  others : ∀ d, d ≠ c → ChannelDriven b d

theorem Driven.but {b : Blocks} (h : Driven b) (c : Channel) : DrivenBut b c :=
  ⟨h.inDomain, (h.channel c).line_eq, fun d _ => h.channel d⟩

theorem DrivenBut.driven {b : Blocks} {c : Channel} (h : DrivenBut b c) (self : ChannelDriven b c) : Driven b :=
  ⟨h.inDomain, fun d => if e : d = c then e ▸ self else h.others d e⟩

theorem DrivenBut.setChannelOutput {b : Blocks} {c : Channel} (h : DrivenBut b c) {o : ChannelOutput}
    (line : LineShowsDrive o) : DrivenBut (b.setChannelOutput c o) c where
  inDomain := h.inDomain.congr rfl rfl rfl rfl
  line_eq := by rw [Blocks.channelOutput_setChannelOutput_self]; exact line
  others d ne := by
    have output := b.channelOutput_setChannelOutput_of_ne ne o
    exact (h.others d ne).congr
      (Blocks.driveOf_congr_channel Iff.rfl rfl rfl (congrArg ChannelOutput.fault output) rfl) rfl output

theorem DrivenBut.setFault {b : Blocks} {c : Channel} (h : DrivenBut b c) (f : FaultState) :
    DrivenBut (b.setFault c f) c :=
  h.setChannelOutput h.line_eq

theorem DrivenBut.refreshChannel {b : Blocks} {c : Channel} (h : DrivenBut b c) : Driven (b.refreshChannel c) := by
  have output := b.channelOutput_refreshChannel_self c
  have fault : (b.refreshChannel c).fault c = b.fault c := by
    rw [Blocks.fault, output, Blocks.refreshedOutput_fault]
  exact (h.setChannelOutput (lineShowsDrive_refreshedOutput h.line_eq)).driven
    (channelDriven_of_refreshed h.line_eq output (Blocks.driveOf_congr_channel Iff.rfl rfl rfl fault rfl) rfl)

/-- A failure restores the law of its channel, which in UNSAFE, where nothing comes of it, must hold before (08 R139). -/
theorem DrivenBut.failChannel {b : Blocks} {c : Channel} (h : DrivenBut b c)
    (unsafeState_driven : b.fault c = .unsafeState → ChannelDriven b c) : Driven (b.failChannel c) := by
  unfold Blocks.failChannel
  simp only
  split
  · exact (h.setFault .faulted).refreshChannel.congr (by simp [SameDrives])
  · exact (h.setFault .unsafeState).refreshChannel.congr (by simp [SameDrives])
  · rename_i fault
    exact h.driven (unsafeState_driven fault)

/-- A channel whose drive, line and fault state stand is driven still when its mismatch timer is right (08 R134, R137). -/
theorem ChannelDriven.of_sameDrive {b d : Blocks} {c : Channel} (h : ChannelDriven b c)
    (device : d.device = b.device) (active : d.active = b.active) (agreed : d.agreed c = b.agreed c)
    (vetoes : d.output.vetoes = b.output.vetoes)
    (same : (d.channelOutput c).drive = (b.channelOutput c).drive ∧
      (d.channelOutput c).line = (b.channelOutput c).line ∧ d.fault c = b.fault c)
    (mismatch : (d.channelOutput c).mismatch.isSome = b.mismatchRuns c (d.channelOutput c)) :
    ChannelDriven d c where
  drive_eq := by
    obtain ⟨drive, -, fault⟩ := same
    rw [drive, h.drive_eq, Blocks.driveOf_congr_channel (by rw [device]) active agreed fault vetoes]
  line_eq := by
    obtain ⟨drive, line, -⟩ := same
    unfold LineShowsDrive
    rw [drive, line]
    exact h.line_eq
  mismatch_isSome := by rw [mismatch, Blocks.mismatchRuns_congr active]

/-- An output written and then supervised is driven when its drive, line and fault state stand (08 R134, R137). -/
theorem Driven.supervised {b : Blocks} (h : Driven b) {c : Channel} {o : ChannelOutput}
    (drive : o.drive = (b.channelOutput c).drive) (line : o.line = (b.channelOutput c).line)
    (fault : o.fault = b.fault c) : Driven (b.setChannelOutput c (b.superviseOutput c o)) := by
  have shown : LineShowsDrive o := by unfold LineShowsDrive; rw [drive, line]; exact (h.channel c).line_eq
  have output := b.channelOutput_setChannelOutput_self c (b.superviseOutput c o)
  refine ((h.but c).setChannelOutput (o := b.superviseOutput c o) shown).driven
    ((h.channel c).of_sameDrive rfl rfl rfl rfl ?_ ?_)
  · rw [Blocks.fault, output]
    exact ⟨drive, line, fault⟩
  · simp [output]

theorem Driven.readbackChanges {b : Blocks} (h : Driven b) (c : Channel) (level : ReadbackLevel) :
    Driven (b.readbackChanges c level) :=
  h.supervised rfl rfl rfl

theorem Driven.settleExpires {b : Blocks} (h : Driven b) (c : Channel) : Driven (b.settleExpires c) := by
  unfold Blocks.settleExpires
  simp only
  split
  · rename_i fails
    have line : LineShowsDrive { b.channelOutput c with settle := none } := (h.channel c).line_eq
    refine ((h.but c).setChannelOutput line).failChannel fun fault => ?_
    rw [Blocks.fault, Blocks.channelOutput_setChannelOutput_self] at fault
    simp only [Bool.and_eq_true, bne_iff_ne] at fails
    obtain ⟨⟨-, safe⟩, -⟩ := fails
    exact absurd fault safe
  · exact h.supervised rfl rfl rfl

theorem Driven.mismatchExpires {b : Blocks} (h : Driven b) (c : Channel) : Driven (b.mismatchExpires c) := by
  have line : LineShowsDrive { b.channelOutput c with mismatch := none } := (h.channel c).line_eq
  have output := b.channelOutput_setChannelOutput_self c { b.channelOutput c with mismatch := none }
  refine ((h.but c).setChannelOutput line).failChannel fun fault =>
    (h.channel c).of_sameDrive rfl rfl rfl rfl ?_ ?_
  · rw [Blocks.fault, output]
    exact ⟨rfl, rfl, rfl⟩
  · rw [Blocks.mismatchRuns_unsafeState _ _ _ fault, output]
    rfl

theorem Driven.clearFault {b : Blocks} (h : Driven b) (c : Channel) : Driven (b.clearFault c) := by
  have but : DrivenBut ((b.setFault c .none).post (.faultCleared c (b.fault c))) c :=
    have cleared := (h.but c).setFault .none
    ⟨cleared.inDomain.congr rfl rfl rfl rfl, cleared.line_eq, fun d ne => (cleared.others d ne).congr rfl rfl rfl⟩
  exact but.refreshChannel.congr (by simp [Blocks.clearFault, SameDrives])

/-- The conditions of 08 R137 stand while time passes. -/
theorem Blocks.mismatchRuns_later (b : Blocks) (c : Channel) (o : ChannelOutput) :
    b.mismatchRuns c { o with settle := Timer.later o.settle, mismatch := Timer.later o.mismatch }
      = b.mismatchRuns c o := by
  simp [Blocks.mismatchRuns, Timer.later, ChannelOutput.disagrees]

/-- Time passing moves no drive and stops no mismatch timer. -/
theorem Driven.timersLater {b : Blocks} (h : Driven b) : Driven b.timersLater := by
  have output : ∀ c, b.timersLater.channelOutput c = { b.channelOutput c with
      settle := Timer.later (b.channelOutput c).settle, mismatch := Timer.later (b.channelOutput c).mismatch } := by
    intro c
    simp [Blocks.timersLater, Blocks.channelOutput]
  have inDomain : InDomain b.timersLater :=
    ⟨h.inDomain.fallback_le, h.inDomain.pending_valid, h.inDomain.agreed_le, h.inDomain.running_of_collecting,
      h.inDomain.proposals_le⟩
  refine ⟨inDomain, fun c => (h.channel c).of_sameDrive rfl rfl rfl rfl ?_ ?_⟩
  · rw [Blocks.fault, output]
    exact ⟨rfl, rfl, rfl⟩
  · rw [output, Blocks.mismatchRuns_later, ← (h.channel c).mismatch_isSome]
    exact Option.isSome_map

end Sys2Proof.Machine
end

section
/-! # The drive law through the events of the blocks

One lemma for each operation that an event of Members, Vote, Device or Ballots is built from. -/

namespace Sys2Proof.Machine

/-! ## Inputs written -/

/-- A device or round that changes leaves the inputs in domain when the agreed image stands and a round of RUNNING starts
with an empty table (02 R17). -/
theorem InDomain.of_newRound {b d : Blocks} (h : InDomain b) (active : d.active = b.active)
    (pending : ∀ p, d.pendingRecord = some p → b.pendingRecord = some p)
    (agreed : d.vote.channels = b.vote.channels) (notCollecting : d.vote.openRound ≠ .collecting)
    (emptied : d.device = .running → NothingProposed d) : InDomain d where
  fallback_le c := by rw [Blocks.fallback_congr active, Blocks.channelType_congr active]; exact h.fallback_le c
  pending_valid p some_p := h.pending_valid p (pending p some_p)
  agreed_le c := by rw [Blocks.agreed_congr agreed, Blocks.channelType_congr active]; exact h.agreed_le c
  running_of_collecting collecting := absurd collecting notCollecting
  proposals_le running l c v stored := by simp [emptied running l c] at stored

theorem nothingProposed_openNextRound (b : Blocks) : NothingProposed b.openNextRound := by
  intro l c
  simp [ProposalRow.empty]

/-- A commit leaves an empty table to the round it opens (02 R27). -/
theorem nothingProposed_commitRound (b : Blocks) (e : Evaluation) : NothingProposed (b.commitRound e) := by
  intro l c
  simp [Blocks.commitRound, ProposalRow.empty]

/-- The fallback image is in domain (01 R6). -/
theorem InDomain.of_fallbackImage {d : Blocks} (fallback_le : ∀ c, d.fallback c ≤ domainMax (d.channelType c))
    (pending_valid : ∀ p, d.pendingRecord = some p → validate p.image = none)
    (agreed : ∀ c, d.agreed c = d.fallback c) (collecting : d.vote.openRound = .collecting → d.device = .running)
    (emptied : d.device = .running → NothingProposed d) : InDomain d where
  fallback_le := fallback_le
  pending_valid := pending_valid
  agreed_le c := by rw [agreed]; exact fallback_le c
  running_of_collecting := collecting
  proposals_le running l c v stored := by simp [emptied running l c] at stored

/-- SAFE_HOLD begins with no round open and the fallback image (05 R82). -/
theorem InDomain.safeHold {b : Blocks} (h : InDomain b) :
    InDomain ({ b with device := .safeHold } : Blocks).discardRound.writeFallbackImage := by
  have active : ({ b with device := .safeHold } : Blocks).discardRound.writeFallbackImage.active = b.active := by simp
  refine .of_fallbackImage (fun c => ?_) (by simpa using h.pending_valid) (fun c => ?_) (by simp) (by simp)
  · rw [Blocks.fallback_congr active, Blocks.channelType_congr active]
    exact h.fallback_le c
  · rw [Blocks.fallback_congr active, Blocks.agreed, Blocks.writeFallbackImage_channels, Table.row_build]
    exact Blocks.fallback_congr (by simp) c

/-- The agreed image that a close in RUNNING writes is in domain (02 R35). -/
theorem InDomain.committed {b : Blocks} (h : InDomain b) (running : b.device = .running) :
    InDomain { b with vote := { b.vote with
      channels := Table.build (b.committedRecord b.evaluate), deadline := none } } where
  fallback_le := h.fallback_le
  pending_valid := h.pending_valid
  agreed_le c := by
    rw [Blocks.agreed, Table.row_build]
    exact Blocks.committedRecord_agreed_le c (h.fallback_le c) (h.agreed_le c)
      fun l => h.proposals_le running l c
  running_of_collecting := h.running_of_collecting
  proposals_le := h.proposals_le

namespace Driven

variable {b : Blocks}

/-- The lines of a driven output stage, left as it was. -/
theorem lines (h : Driven b) {d : Blocks} (output : d.output = b.output) (c : Channel) :
    LineShowsDrive (d.channelOutput c) := by
  rw [Blocks.channelOutput_congr output]
  exact (h.channel c).line_eq

theorem updateFailn (h : Driven b) : Driven b.updateFailn := h.congr ⟨rfl, rfl, rfl, rfl, rfl⟩

/-! ## Lanes (04 R65 to R74) -/

theorem vetoStep (h : Driven b) (l : Lane) (new : LaneState) : Driven (b.vetoStep l new true) := by
  unfold Blocks.vetoStep
  split
  · exact driven_refreshOutputs (h.inDomain.congr rfl rfl rfl rfl) fun c => (h.channel c).line_eq
  · exact h

theorem setLane (h : Driven b) (l : Lane) (r : LaneRecord) : Driven (b.setLane l r) :=
  h.congr (by simp [SameDrives])

theorem moveLane (h : Driven b) (l : Lane) (r : LaneRecord) (cause : MemberCause) :
    Driven (b.moveLane l r cause true) :=
  ((h.setLane l r).vetoStep l r.state).congr (by simp [SameDrives, Blocks.moveLane])

theorem admitLane (h : Driven b) (l : Lane) : Driven (b.admitLane l) := by
  unfold Blocks.admitLane
  split
  · exact h.moveLane ..
  · exact h

theorem admitReady (h : Driven b) : Driven b.admitReady :=
  List.foldlRecOn _ _ h fun _ moved l _ => moved.admitLane l

theorem excludeAtThreshold (h : Driven b) (l : Lane) : Driven (b.excludeAtThreshold l) := by
  unfold Blocks.excludeAtThreshold
  split
  · exact h.moveLane ..
  · exact h

theorem applyReport (h : Driven b) (report : List (Lane × Bool)) : Driven (b.applyReport report) := by
  have struck : Driven (report.foldl Blocks.applyStrike b) :=
    List.foldlRecOn _ _ h fun _ driven entry _ => driven.congr (by simp [SameDrives])
  exact admitReady (List.foldlRecOn _ _ struck fun _ moved l _ => moved.excludeAtThreshold l)

end Driven

/-! ## The switch (07 R124) -/

namespace Blocks

/-- The blocks after steps 1 to 3 of a switch: new configuration, its fallback image, fault states and vetoes. -/
def switchedInputs (b : Blocks) (p : PendingRecord) : Blocks :=
  ({ b with active := some ⟨decodeConfig p.image, p.digest⟩, pendingRecord := none } : Blocks).switchVote.switchOutputs
    b.channelType

theorem switchTo_eq (b : Blocks) (p : PendingRecord) :
    b.switchTo p =
      ((((b.switchedInputs p).post (.configSwitched (b.active.map ActiveConfig.digest)
        p.digest)).discardBallots.switchLanes).refreshOutputs).updateFailn := rfl

theorem channels_moveLane_noRecompute (b : Blocks) (l : Lane) (r : LaneRecord) (cause : MemberCause) :
    (b.moveLane l r cause false).output.channels = b.output.channels := by
  simp only [moveLane, supporterStep_kept, post_kept, readerStep_kept, vetoStep]
  split <;> rfl

theorem channels_switchLane (b : Blocks) (l : Lane) : (b.switchLane l).output.channels = b.output.channels := by
  unfold switchLane
  simp only
  split
  · rfl
  · split
    · exact channels_moveLane_noRecompute ..
    · split
      · exact channels_moveLane_noRecompute ..
      · rfl

/-- The lane records brought into line with a new configuration move no channel: the drives are recomputed at step 7. -/
theorem channels_switchLanes (b : Blocks) : b.switchLanes.output.channels = b.output.channels := by
  have moved : ((List.finRange 4).foldl switchLane b).output.channels = b.output.channels :=
    List.foldlRecOn (motive := fun d => d.output.channels = b.output.channels) _ _ rfl
      fun d same l _ => (channels_switchLane d l).trans same
  simpa only [switchLanes] using moved

theorem channelOutput_congr_channels {b d : Blocks} (h : b.output.channels = d.output.channels) (c : Channel) :
    b.channelOutput c = d.channelOutput c := by
  unfold channelOutput; rw [h]

/-- Step 3 of a switch clears fault states and leaves every drive and line (07 R125). -/
theorem switchOutputs_drive_line (b : Blocks) (oldType : Channel → ChannelType) (c : Channel) :
    ((b.switchOutputs oldType).channelOutput c).drive = (b.channelOutput c).drive ∧
    ((b.switchOutputs oldType).channelOutput c).line = (b.channelOutput c).line := by
  simp only [switchOutputs, channelOutput, Table.row_build]
  split <;> exact ⟨rfl, rfl⟩

/-- The blocks at LOCKOUT entry before step 6 recomputes the drives (05 R87). -/
def lockoutInputs (b : Blocks) (cause : LockoutCause) : Blocks :=
  let entered := { b with lockoutRecord := some ⟨cause, b.vote.nextRound, b.device⟩, device := DeviceState.lockout }
  let dropped := { entered.abandonRound with pendingRecord := none }
  (dropped.postState b.device .lockout (lockoutStateCause cause)).discardBallots

theorem enterLockout_eq (b : Blocks) (cause : LockoutCause) :
    b.enterLockout cause = (b.lockoutInputs cause).refreshOutputs.updateFailn := rfl

@[simp] theorem carryOutPending_device (b : Blocks) : b.carryOutPending.device = b.device := by
  unfold carryOutPending
  split <;> simp

@[simp] theorem enterSafeHold_device (b : Blocks) : b.enterSafeHold.device = .safeHold := by
  simp [enterSafeHold]

end Blocks

namespace Driven

variable {b : Blocks}

/-- A switch to a valid image restores the law in full: the agreed image is the new fallback image. In RUNNING it takes
place at a close, when nothing is proposed (07 R127). -/
theorem switchTo (h : Driven b) {p : PendingRecord} (valid : validate p.image = none)
    (emptied : b.device = .running → NothingProposed b) : Driven (b.switchTo p) := by
  have inDomain : InDomain (b.switchedInputs p) := .of_fallbackImage (fallback_le_of_validate valid)
    (fun _ some_p => by cases some_p) (fun c => congrArg ChannelRecord.agreed (Table.row_build _ c))
    h.inDomain.running_of_collecting emptied
  have lines : ∀ c, LineShowsDrive ((b.switchedInputs p).channelOutput c) := fun c => by
    obtain ⟨drive, line⟩ := Blocks.switchOutputs_drive_line (Blocks.switchVote _) b.channelType c
    unfold LineShowsDrive Blocks.switchedInputs
    rw [drive, line]
    exact (h.channel c).line_eq
  rw [Blocks.switchTo_eq]
  generalize b.switchedInputs p = inputs at inDomain lines ⊢
  refine (driven_refreshOutputs ?_ fun c => ?_).updateFailn
  · exact inDomain.congr (by simp) (by simp) (by simp) (by simp)
  · rw [Blocks.channelOutput_congr_channels (d := inputs) (by simp [Blocks.channels_switchLanes])]
    exact lines c

theorem carryOutPending (h : Driven b) (idle : b.device ≠ .running) : Driven b.carryOutPending := by
  unfold Blocks.carryOutPending
  split
  · rename_i p pending
    exact h.switchTo (h.inDomain.pending_valid p pending) fun running => absurd running idle
  · exact h

/-! ## The device state (05 R81 to R83, R87) -/

/-- RUNNING begins with an empty table and every drive recomputed (02 R17, 05 R81, R83). -/
theorem openRunning (h : Driven b) :
    Driven (({ b with device := .running } : Blocks).openNextRound.refreshOutputs) :=
  driven_refreshOutputs
    (h.inDomain.of_newRound rfl (fun _ => id) rfl (by simp) fun _ => nothingProposed_openNextRound _) (h.lines rfl)

theorem enterRunning (h : Driven b) : Driven b.enterRunning := by
  have restarted : Driven b.restartVotingLeases := h.congr ⟨rfl, rfl, rfl, rfl, rfl⟩
  exact restarted.openRunning.congr ⟨rfl, rfl, rfl, rfl, rfl⟩

theorem resume (h : Driven b) : Driven b.resume :=
  h.openRunning.congr ⟨rfl, rfl, rfl, rfl, rfl⟩

theorem safeHoldSteps (h : Driven b) : Driven b.safeHoldSteps := by
  have recomputed := driven_refreshOutputs h.inDomain.safeHold (h.lines (by simp))
  exact admitReady (recomputed.congr ⟨rfl, rfl, rfl, rfl, rfl⟩)

theorem enterSafeHold (h : Driven b) : Driven b.enterSafeHold :=
  h.safeHoldSteps.carryOutPending (by simp)

theorem enterLockout (h : Driven b) (cause : LockoutCause) : Driven (b.enterLockout cause) := by
  have inDomain : InDomain (b.lockoutInputs cause) := h.inDomain.of_newRound (by simp [Blocks.lockoutInputs])
    (by simp [Blocks.lockoutInputs]) (by simp [Blocks.lockoutInputs]) (by simp [Blocks.lockoutInputs])
    (by simp [Blocks.lockoutInputs])
  rw [Blocks.enterLockout_eq]
  exact (driven_refreshOutputs inDomain (h.lines (by simp [Blocks.lockoutInputs]))).updateFailn

theorem reportCount (h : Driven b) : Driven b.reportCount := by
  unfold Blocks.reportCount
  split
  · split
    · exact h.enterRunning
    · exact h
  · split
    · exact h
    · exact h.enterSafeHold
  · exact h
  · exact h
  · exact h

/-! ## The close of a round (02 R27) -/

end Driven

/-- A report of the count opens a round with an empty table or leaves the table (02 R17, 05 R79). -/
theorem nothingProposed_reportCount {b : Blocks} (h : NothingProposed b)
    (running : b.reportCount.device = .running) : NothingProposed b.reportCount := by
  unfold Blocks.reportCount at running ⊢
  split
  · split
    · intro l c
      simp [Blocks.enterRunning, ProposalRow.empty]
    · exact h
  · split
    · exact h
    · simp_all
  · exact h
  · exact h
  · exact h

namespace Driven

variable {b : Blocks}

theorem switchAtClose (h : Driven b) (emptied : b.device = .running → NothingProposed b) :
    Driven b.switchAtClose := by
  unfold Blocks.switchAtClose
  split
  · rename_i p running pending
    have switched := h.switchTo (h.inDomain.pending_valid p pending) emptied
    split
    · exact switched
    · exact switched.safeHoldSteps
  · exact h

theorem afterCommit (h : Driven b) (emptied : NothingProposed b) (report : List (Lane × Bool)) :
    Driven (b.afterCommit report) := by
  have kept : NothingProposed (b.applyReport report) := by
    have vote : (b.applyReport report).vote = b.vote := by simp
    unfold NothingProposed
    rw [vote]
    exact emptied
  exact (h.applyReport report).reportCount.switchAtClose (nothingProposed_reportCount kept)

/-- A commit recomputes the drives from the agreed image it writes and opens a round with an empty table (02 R27). -/
theorem commitRound (h : Driven b) (running : b.device = .running) : Driven (b.commitRound b.evaluate) := by
  have recomputed := driven_refreshOutputs (h.inDomain.committed running) (h.lines rfl)
  refine recomputed.of_sameAgreed ?_ (by simp [Blocks.commitRound]) (by simp [Blocks.commitRound])
    (by simp [Blocks.commitRound]) (by simp [Blocks.commitRound])
  exact recomputed.inDomain.of_newRound (by simp [Blocks.commitRound]) (by simp [Blocks.commitRound])
    (by simp [Blocks.commitRound]) (by simp [Blocks.commitRound]) fun _ => nothingProposed_commitRound b b.evaluate

theorem closeRound (h : Driven b) (running : b.device = .running) (evalB : Option Evaluation) :
    Driven (b.closeRound evalB) := by
  unfold Blocks.closeRound
  split
  · exact (h.commitRound running).afterCommit (nothingProposed_commitRound b b.evaluate) _
  · exact h.enterLockout _

theorem retest (h : Driven b) (evalB : Option Evaluation) : Driven (b.retest evalB) := by
  unfold Blocks.retest
  split
  · rename_i closes
    exact h.closeRound (h.inDomain.running_of_collecting closes.1) evalB
  · exact h

theorem closeIfComplete (h : Driven b) (evalB : Option Evaluation) : Driven (b.closeIfComplete evalB) := by
  unfold Blocks.closeIfComplete
  split
  · rename_i closes
    exact h.closeRound (h.inDomain.running_of_collecting closes.1) evalB
  · exact h

/-! ## Lane events outside a close (04) -/

theorem laneEvent (h : Driven b) (l : Lane) (r : LaneRecord) (cause : MemberCause) (evalB : Option Evaluation) :
    Driven (b.laneEvent l r cause evalB) := by
  unfold Blocks.laneEvent
  simp only
  split
  · exact ((h.moveLane l r cause).retest evalB).reportCount
  · exact h.moveLane l r cause

theorem admitOutsideRunning (h : Driven b) (l : Lane) : Driven (b.admitOutsideRunning l) := by
  unfold Blocks.admitOutsideRunning
  split
  · exact (h.admitLane l).reportCount
  · exact (h.admitLane l).reportCount
  · exact h
  · exact h
  · exact h

theorem join (h : Driven b) (l : Lane) (digest : Digest) : Driven (b.join l digest).1 := by
  unfold Blocks.join
  split
  · exact h
  · exact h.moveLane ..
  · split
    · exact h
    · split
      · exact h
      · exact (h.moveLane ..).admitOutsideRunning l
  · exact h
  · exact h
  · exact h
  · exact h
  · exact h.setLane ..

theorem leave (h : Driven b) (l : Lane) (evalB : Option Evaluation) : Driven (b.leave l evalB).1 := by
  unfold Blocks.leave
  split
  · exact h
  · exact h
  · exact h
  · exact h.laneEvent ..
  · exact h.laneEvent ..
  · exact h.laneEvent ..
  · exact h.laneEvent ..

theorem renew (h : Driven b) (l : Lane) : Driven (b.renew l) := by
  unfold Blocks.renew
  split
  · exact h
  · exact h
  · exact h
  · exact h
  · exact h.setLane ..
  · exact h.setLane ..
  · split
    · exact h.setLane ..
    · exact (h.setLane ..).admitOutsideRunning l

theorem readmit (h : Driven b) (l : Lane) : Driven (b.readmit l) :=
  (h.moveLane ..).admitOutsideRunning l

theorem leaseExpires (h : Driven b) (l : Lane) (evalB : Option Evaluation) : Driven (b.leaseExpires l evalB) := by
  unfold Blocks.leaseExpires
  simp only
  split
  · exact h.laneEvent ..
  · exact h.laneEvent ..
  · split
    · exact h.setLane ..
    · exact h
  · exact h
  · exact h
  · exact h

theorem graceExpires (h : Driven b) (l : Lane) : Driven (b.graceExpires l) := by
  unfold Blocks.graceExpires
  simp only
  split
  · exact h.laneEvent ..
  · exact h

/-! ## PROPOSE and VETO -/

/-- A proposal stored in RUNNING keeps the values proposed in domain when its own values are (02 R19, R21). -/
theorem storeProposal (h : Driven b) (l : Lane) {entries : List (Channel × Nat)} (running : b.device = .running)
    (good : ∀ c v, (c, v) ∈ entries → v ≤ domainMax (b.channelType c)) : Driven (b.storeProposal l entries) := by
  have active : (b.storeProposal l entries).active = b.active := by simp
  have channels : (b.storeProposal l entries).vote.channels = b.vote.channels := by
    unfold Blocks.storeProposal
    split <;> rfl
  have proposals : (b.storeProposal l entries).vote.proposals
      = b.vote.proposals.put l (Blocks.proposalRow entries) := by
    unfold Blocks.storeProposal
    split <;> rfl
  refine h.of_sameAgreed ?_ (by simp) active channels (by simp)
  constructor
  case fallback_le =>
    intro c
    rw [Blocks.fallback_congr active, Blocks.channelType_congr active]
    exact h.inDomain.fallback_le c
  case pending_valid => simpa using h.inDomain.pending_valid
  case agreed_le =>
    intro c
    rw [Blocks.agreed_congr channels, Blocks.channelType_congr active]
    exact h.inDomain.agreed_le c
  case running_of_collecting => simp [running]
  case proposals_le =>
    intro _ m c v stored
    rw [proposals, Table.row_put] at stored
    rw [Blocks.channelType_congr active]
    split at stored
    · exact good c v (Blocks.mem_of_proposalRow stored)
    · exact h.inDomain.proposals_le running m c v stored

theorem propose (h : Driven b) (l : Lane) (round : BitVec 16) (entries : List (Nat × Nat))
    (evalB : Option Evaluation) : Driven (b.propose l round entries evalB).1 := by
  unfold Blocks.propose
  split
  · exact h
  split
  · exact h
  split
  · exact h
  split
  · exact h
  rename_i running
  split
  · exact h
  split
  · exact h
  split
  · exact h
  split
  · exact h
  · rename_i checked
    refine (h.storeProposal l (Decidable.not_not.mp running) fun c v listed => ?_).closeIfComplete evalB
    exact Blocks.le_domainMax_of_not_bad (Blocks.not_bad_of_checkEntries checked listed)

theorem acceptVeto (h : Driven b) (l : Lane) (entries : List (Channel × Bool)) : Driven (b.acceptVeto l entries) :=
  driven_refreshOutputs (h.inDomain.congr rfl rfl rfl rfl) fun c => (h.channel c).line_eq

/-! ## Ballots (06 R102 to R105) -/

theorem removeSupporter (h : Driven b) (l : Lane) (concerned : Ballot → Bool) :
    Driven (b.removeSupporter l concerned) :=
  h.congr (by simp [SameDrives])

theorem ballotExpires (h : Driven b) (x : Ballot) : Driven (b.ballotExpires x) :=
  h.congr (by simp [SameDrives, Blocks.ballotExpires])

/-- The first switch: the device goes from one state outside RUNNING to another (05 R80). -/
theorem firstSwitch (h : Driven b) (unconfigured : b.device = .unconfigured) : Driven b.firstSwitch := by
  have switched : Driven b.carryOutPending := h.carryOutPending (by simp [unconfigured])
  have gathering : Driven { b.carryOutPending with device := .gathering } := by
    refine switched.of_sameAgreed ?_ (by simp [unconfigured]) rfl rfl rfl
    refine switched.inDomain.of_newRound rfl (fun _ => id) rfl (fun collecting => ?_) (by simp)
    have running := switched.inDomain.running_of_collecting collecting
    simp [unconfigured] at running
  have posted : Driven (({ b.carryOutPending with device := .gathering } : Blocks).postState .unconfigured .gathering
      .firstSwitch) := gathering.congr (by simp [SameDrives])
  exact posted.admitReady.reportCount

theorem commitConfig (h : Driven b) {image : Memory} (valid : validate image = none) (d : Digest) :
    Driven (b.commitConfig image d) := by
  have pending : Driven { b with pendingRecord := some ⟨image, d⟩ } := by
    refine h.of_sameAgreed ⟨h.inDomain.fallback_le, fun p some_p => ?_, h.inDomain.agreed_le,
      h.inDomain.running_of_collecting, h.inDomain.proposals_le⟩ Iff.rfl rfl rfl rfl
    cases some_p
    exact valid
  unfold Blocks.commitConfig
  simp only
  split
  · rename_i unconfigured
    exact pending.firstSwitch unconfigured
  · rename_i safeHold
    exact pending.carryOutPending (by simp [safeHold])
  · exact pending
  · exact pending
  · exact pending

end Driven

/-- Every lane that supports the action holds a valid image of the configuration the action names, if it names one
(06 R97). -/
def ImagesOf (staging : Staging) (supporters : LaneSet) (action : BallotAction) : Prop :=
  ∀ d, action = .commitConfig d → ∀ l, supporters.has l = true → validate (staging.row l).image = none

namespace Driven

variable {b : Blocks}

theorem carryOut (h : Driven b) {staging : Staging} {supporters : LaneSet} {action : BallotAction}
    (images : ImagesOf staging supporters action) : Driven (b.carryOut staging supporters action) := by
  cases action with
  | clearFault c => exact h.clearFault c
  | readmit l => exact h.readmit l
  | resume => exact h.resume
  | commitConfig d =>
    simp only [Blocks.carryOut]
    split
    · rename_i l lowest
      have member : IndexSet.has supporters l = true := (IndexSet.mem_members _ _).mp (List.mem_of_head? lowest)
      exact h.commitConfig (images d rfl l member) d
    · exact h

theorem pass (h : Driven b) {staging : Staging} {x : Ballot} {supporters : LaneSet}
    (images : ImagesOf staging supporters x.action) : Driven (b.pass staging x supporters) := by
  have removed : Driven ((b.removeBallot x.slot).post (.ballotPassed x.slot x.action supporters)) :=
    h.congr (by simp [SameDrives])
  exact removed.carryOut images

theorem addSupport (h : Driven b) {staging : Staging} {l : Lane} {x : Ballot}
    (images : ImagesOf staging (x.supporters.insert l) x.action) : Driven (b.addSupport staging l x).1 := by
  unfold Blocks.addSupport
  simp only
  split
  · exact h.pass images
  · exact h.congr (by simp [SameDrives])

theorem supportTable (h : Driven b) {staging : Staging} {l : Lane} {action : BallotAction}
    (images : ∀ x ∈ b.ballots, x.action = action → ImagesOf staging (x.supporters.insert l) action) :
    Driven (b.supportTable staging l action).1 := by
  unfold Blocks.supportTable
  split
  · rename_i x found
    split
    · exact h
    · have same : x.action = action := by simpa using List.find?_some found
      exact h.addSupport (same ▸ images x (List.mem_of_find?_eq_some found) same)
  · exact h.congr (by simp [SameDrives])
  · exact h

end Driven

/-- A lane may support the switch to a configuration only with its sealed image (06 R97). -/
theorem Blocks.carries_of_applicable {b : Blocks} {staging : Staging} {l : Lane} {d : Digest}
    (h : b.inapplicable staging l (.commitConfig d) = none) : (staging.row l).carries d = true := by
  unfold Blocks.inapplicable at h
  cases carries : (staging.row l).carries d with
  | true => rfl
  | false =>
    simp only [carries] at h
    split at h <;> cases h

/-- A SUPPORT keeps the drive law when sealed images are valid and every supporter holds the image it supports. -/
theorem Driven.support {b : Blocks} (h : Driven b) {staging : Staging} {l : Lane} {action : BallotAction}
    (sealed_valid : ∀ l, (staging.row l).state = .sealed → validate (staging.row l).image = none)
    (carried : ∀ x ∈ b.ballots, ∀ d, x.action = .commitConfig d → ∀ l, x.supporters.has l = true →
      (staging.row l).carries d = true) : Driven (b.support staging l action).1 := by
  have valid : ∀ m d, (staging.row m).carries d = true → validate (staging.row m).image = none := by
    intro m d carries
    simp only [StagingArea.carries, Bool.and_eq_true, beq_iff_eq] at carries
    exact sealed_valid m carries.1
  unfold Blocks.support
  split
  · exact h
  · split
    · exact h
    · split
      · exact h
      · rename_i applicable
        refine h.supportTable fun x open_x same d names m supports => ?_
        subst names
        rw [IndexSet.has_insert, Bool.or_eq_true, decide_eq_true_eq] at supports
        rcases supports with old | rfl
        · exact valid m d (carried x open_x d same m old)
        · exact valid l d (Blocks.carries_of_applicable applicable)

end Sys2Proof.Machine
end

section
/-! # Every step keeps the drive law (01 R2, R8 to R10, 08 R133 to R137) -/

namespace Sys2Proof.Machine

/-! ## Requests that leave the blocks as they were -/

@[simp] theorem blocks_unchanged (b : Blocks) (staging : Staging) (o : Outcome) (payload : List Byte) :
    (unchanged b staging o payload).blocks = b := rfl

@[simp] theorem blocks_badRequest (b : Blocks) (staging : Staging) : (badRequest b staging).blocks = b := rfl

@[simp] theorem blocks_handleStageWrite (l : Lane) (payload : List Byte) (b : Blocks) (staging : Staging) :
    (handleStageWrite l payload b staging).blocks = b := by
  unfold handleStageWrite
  split
  · rfl
  · split
    · rfl
    · split
      · rfl
      · rfl
      · split <;> rfl

@[simp] theorem blocks_handleStageSeal (l : Lane) (payload : List Byte) (b : Blocks) (staging : Staging) :
    (handleStageSeal l payload b staging).blocks = b := by
  unfold handleStageSeal
  split
  · rfl
  · split
    · rfl
    · split <;> rfl

@[simp] theorem blocks_handleReadStaging (l : Lane) (payload : List Byte) (b : Blocks) (staging : Staging) :
    (handleReadStaging l payload b staging).blocks = b := by
  unfold handleReadStaging
  split
  · rfl
  · rfl
  · split <;> rfl

@[simp] theorem blocks_handleReadStatus (payload : List Byte) (b : Blocks) (staging : Staging) :
    (handleReadStatus payload b staging).blocks = b := by
  unfold handleReadStatus
  split <;> rfl

@[simp] theorem blocks_handleReadChannels (payload : List Byte) (b : Blocks) (staging : Staging) :
    (handleReadChannels payload b staging).blocks = b := by
  unfold handleReadChannels
  split
  · rfl
  · split <;> rfl

@[simp] theorem blocks_handleReadBallots (payload : List Byte) (b : Blocks) (staging : Staging) :
    (handleReadBallots payload b staging).blocks = b := by
  unfold handleReadBallots
  split <;> rfl

@[simp] theorem blocks_handleUnknown (b : Blocks) (staging : Staging) : (handleUnknown b staging).blocks = b := rfl

/-- The response to a SUPPORT carries the blocks it is given. -/
@[simp] theorem blocks_served (b : Blocks) (staging : Staging) (a : SupportAnswer) :
    (a.served b staging).blocks = b := by
  cases a <;> rfl

/-! ## Requests that change them -/

namespace Driven

variable {b : Blocks}

theorem handleJoin (h : Driven b) (l : Lane) (payload : List Byte) (staging : Staging) :
    Driven (handleJoin l payload b staging).blocks := by
  unfold Machine.handleJoin
  split
  · exact h.renew l
  · exact (h.join ..).renew l

theorem handleLeave (h : Driven b) (l : Lane) (payload : List Byte) (evalB : Option Evaluation)
    (staging : Staging) : Driven (handleLeave l payload evalB b staging).blocks := by
  unfold Machine.handleLeave
  split
  · exact h
  · exact h.leave ..

theorem handleKeepalive (h : Driven b) (l : Lane) (payload : List Byte) (staging : Staging) :
    Driven (handleKeepalive l payload b staging).blocks := by
  unfold Machine.handleKeepalive
  split
  · exact h.renew l
  · exact h.renew l

theorem handlePropose (h : Driven b) (l : Lane) (payload : List Byte) (evalB : Option Evaluation)
    (staging : Staging) : Driven (handlePropose l payload evalB b staging).blocks := by
  unfold Machine.handlePropose
  split
  · exact h.renew l
  · exact (h.propose ..).renew l

theorem handleVeto (h : Driven b) (l : Lane) (payload : List Byte) (staging : Staging) :
    Driven (handleVeto l payload b staging).blocks := by
  unfold Machine.handleVeto
  split
  · exact h
  · split
    · exact h
    split
    · exact h
    split
    · exact h
    split
    · exact h
    · exact h.acceptVeto ..

theorem handleStageOpen (h : Driven b) (l : Lane) (payload : List Byte) (staging : Staging) :
    Driven (handleStageOpen l payload b staging).blocks := by
  unfold Machine.handleStageOpen
  split
  · exact h
  · split
    · exact h
    · split
      · exact h
      · exact h
      · simp only [blocks_unchanged]
        split
        · exact h.removeSupporter ..
        · exact h

theorem handleFetchNotices (h : Driven b) (l : Lane) (payload : List Byte) (staging : Staging) :
    Driven (handleFetchNotices l payload b staging).blocks := by
  unfold Machine.handleFetchNotices
  split
  · exact h
  · split
    · exact h
    · exact h.congr ⟨rfl, rfl, rfl, rfl, rfl⟩

end Driven

/-! ## Steps -/

/-- The reset state is driven: every channel UNUSED, OFF and without a timer (01 R14, 08 R146). -/
theorem driven_reset (record : Option LockoutRecord) : Driven { Blocks.reset with lockoutRecord := record } := by
  have output : ∀ c, Blocks.reset.channelOutput c = ChannelOutput.reset := fun c => Table.row_fill _ c
  have agreed : ∀ c, Blocks.reset.agreed c = 0 := fun c => congrArg ChannelRecord.agreed (Table.row_fill _ c)
  have entry : ∀ c, Blocks.reset.entry c = ChannelEntry.unusedEntry := fun c => Table.row_fill _ c
  have type : ∀ c, Blocks.reset.channelType c = .unused := fun c => congrArg ChannelEntry.type (entry c)
  have fallback : ∀ c, Blocks.reset.fallback c = 0 := fun c => congrArg ChannelEntry.fallback (entry c)
  have reset : Driven Blocks.reset :=
    { inDomain :=
        { fallback_le := fun c => by rw [fallback]; exact Nat.zero_le _
          pending_valid := fun p some_p => by cases some_p
          agreed_le := fun c => by rw [agreed]; exact Nat.zero_le _
          running_of_collecting := fun collecting => by cases collecting
          proposals_le := fun running => by cases running }
      channel := fun c =>
        { drive_eq := by simp only [output, Blocks.driveOf, type]; rfl
          line_eq := by rw [output]; rfl
          mismatch_isSome := by simp [output, Blocks.mismatchRuns, Blocks.supervised, type, ChannelOutput.reset] } }
  exact reset.congr ⟨rfl, rfl, rfl, rfl, rfl⟩

/-- Every request keeps the drive law. -/
theorem Driven.handled {s : State} (h : Driven s.toBlocks) (images : ImagesValid s) (l : Lane) (kind : Byte)
    (payload : List Byte) (evalB : Option Evaluation) :
    Driven (handlerOf l kind payload evalB s.toBlocks s.staging).blocks := by
  obtain ⟨sealed_valid, -, -, carried, -⟩ := images
  generalize taken : handlerOf l kind payload evalB = handle
  unfold handlerOf at taken
  split at taken <;> subst taken
  · exact h.handleJoin ..
  · exact h.handleLeave ..
  · exact h.handleKeepalive ..
  · exact h.handlePropose ..
  · exact h.handleVeto ..
  · unfold handleSupport
    split
    · exact h
    · rw [blocks_served]
      exact h.support sealed_valid carried
  · rwa [blocks_handleStageWrite]
  · rwa [blocks_handleStageSeal]
  · exact h.handleStageOpen ..
  · rwa [blocks_handleReadStaging]
  · exact h.handleFetchNotices ..
  · rwa [blocks_handleReadStatus]
  · rwa [blocks_handleReadChannels]
  · rwa [blocks_handleReadBallots]
  · rwa [blocks_handleUnknown]

/-- Every expiry keeps the drive law. A deadline runs only in RUNNING (02 R16, R18). -/
theorem Driven.expired {s : State} (h : Driven s.toBlocks) (round : RoundLaw s) {n : TimerName}
    (due : s.timer n = some 0) (evalB : Option Evaluation) : Driven (s.expire evalB n).toBlocks := by
  obtain ⟨-, deadline_runs, -⟩ := round
  cases n with
  | deadline =>
    have runs : s.vote.deadline.isSome = true := by
      unfold State.timer at due
      split at due
      · cases due
      · simp_all
    exact h.closeRound (h.inDomain.running_of_collecting (deadline_runs.mp runs)) evalB
  | lease l => exact h.leaseExpires l evalB
  | grace l => exact h.graceExpires l
  | lifetime slot =>
    simp only [State.expire]
    split
    · exact h.ballotExpires _
    · exact h
  | sealing l => exact h
  | settle c => exact h.settleExpires c
  | mismatch c => exact h.mismatchExpires c

theorem Driven.event {s : State} (h : Driven s.toBlocks) (images : ImagesValid s) (round : RoundLaw s) {b : Blocks}
    (event : BlocksEvent s b) : Driven b := by
  cases event with
  | unchanged => exact h
  | reset record => exact driven_reset record
  | handled l kind payload evalB => exact h.handled images l kind payload evalB
  | expired n evalB due => exact h.expired round due evalB
  | readback c level => exact h.readbackChanges c level
  | storeCheck _ => exact h.enterLockout _
  | later => exact h.timersLater

/-! ## The law as it is stated -/

/-- The active configuration, decoded from a valid image, has its fallback values in domain (07 R111, 01 R3). -/
theorem fallback_le_of_imagesValid {s : State} (images : ImagesValid s) (c : Channel) :
    s.fallback c ≤ domainMax (s.channelType c) := by
  obtain ⟨-, -, -, -, decoded⟩ := images
  unfold Blocks.fallback Blocks.channelType Blocks.entry Blocks.config
  split
  · rename_i a active
    obtain ⟨m, valid, record⟩ := decoded a active
    rw [record]
    exact fallback_le_of_validate valid c
  · simp [ConfigRecord.noneActive, ChannelEntry.unusedEntry]

theorem driven_of_driveLaw {s : State} (images : ImagesValid s) (round : RoundLaw s) (h : DriveLaw s) :
    Driven s.toBlocks := by
  obtain ⟨channels, proposals, mismatches⟩ := h
  obtain ⟨open_iff, -, -⟩ := round
  have fallback_le := fallback_le_of_imagesValid images
  obtain ⟨-, -, pending_valid, -, -⟩ := images
  have agreed_le : ∀ c, s.agreed c ≤ domainMax (s.channelType c) := fun c => by
    obtain ⟨-, -, agreed, -⟩ := channels c
    exact agreed
  refine ⟨⟨fallback_le, pending_valid, agreed_le, fun collecting => open_iff.mp (by simp [collecting]), proposals⟩,
    fun c => ?_⟩
  obtain ⟨drive, line, -, -⟩ := channels c
  exact ⟨drive, line, by rw [Bool.eq_iff_iff, mismatches c, mismatchRuns_iff]⟩

theorem driveLaw_of_driven {s : State} (h : Driven s.toBlocks) : DriveLaw s := by
  refine ⟨fun c => ?_, h.inDomain.proposals_le, fun c => ?_⟩
  · have driven := h.channel c
    refine ⟨driven.drive_eq, driven.line_eq, h.inDomain.agreed_le c, ?_⟩
    rw [driven.drive_eq]
    exact h.inDomain.driveOf_le c
  · rw [(h.channel c).mismatch_isSome]
    exact mismatchRuns_iff s c

/-- Settles O12: the strengthened law `Driven` is kept by every event of the blocks. -/
theorem driveLawKept : Obligations.DriveLawKept := fun _ _ images round law next =>
  driveLaw_of_driven ((driven_of_driveLaw images round law).event images round (step_blocksEvent next))

end Sys2Proof.Machine
end

section
/-! # Settle and mismatch expiries (08 R136, R137, R139, R144) -/

namespace Sys2Proof.Machine

/-! ## What an event of one channel leaves -/

/-- An event of channel `c` of the output stage: vote, lanes, ballots, device state, configuration and vetoes stand, and so
do every other channel and the readback level of this one. -/
def ChannelEvent (c : Channel) (b d : Blocks) : Prop :=
  d.vote = b.vote ∧ d.lanes = b.lanes ∧ d.ballots = b.ballots ∧ d.device = b.device ∧ d.active = b.active ∧
    d.output.vetoes = b.output.vetoes ∧ (∀ e, e ≠ c → d.channelOutput e = b.channelOutput e) ∧
    (d.channelOutput c).readback = (b.channelOutput c).readback

namespace ChannelEvent

variable {c : Channel} {b d e : Blocks}

theorem refl (c : Channel) (b : Blocks) : ChannelEvent c b b := ⟨rfl, rfl, rfl, rfl, rfl, rfl, fun _ _ => rfl, rfl⟩

theorem trans (h : ChannelEvent c b d) (k : ChannelEvent c d e) : ChannelEvent c b e := by
  obtain ⟨vote, lanes, ballots, device, active, vetoes, others, readback⟩ := h
  obtain ⟨vote', lanes', ballots', device', active', vetoes', others', readback'⟩ := k
  exact ⟨vote'.trans vote, lanes'.trans lanes, ballots'.trans ballots, device'.trans device, active'.trans active,
    vetoes'.trans vetoes, fun x ne => (others' x ne).trans (others x ne), readback'.trans readback⟩

theorem setChannelOutput (b : Blocks) {o : ChannelOutput} (readback : o.readback = (b.channelOutput c).readback) :
    ChannelEvent c b (b.setChannelOutput c o) :=
  ⟨rfl, rfl, rfl, rfl, rfl, rfl, fun _ ne => b.channelOutput_setChannelOutput_of_ne ne o, by simp [readback]⟩

/-- A fault state written and the channel recomputed. -/
theorem refault (c : Channel) (b : Blocks) (f : FaultState) :
    ChannelEvent c b ((b.setFault c f).refreshChannel c) := by
  have readback : ((b.setFault c f).refreshedOutput c).readback = ((b.setFault c f).channelOutput c).readback := by
    simp [Blocks.refreshedOutput]
  have faulted : ChannelEvent c b (b.setFault c f) := setChannelOutput b rfl
  exact faulted.trans (setChannelOutput _ readback)

theorem failChannel (c : Channel) (b : Blocks) : ChannelEvent c b (b.failChannel c) := by
  unfold Blocks.failChannel
  simp only
  split
  · exact refault c b .faulted
  · exact refault c b .unsafeState
  · exact refl c b

theorem settleExpires (c : Channel) (b : Blocks) : ChannelEvent c b (b.settleExpires c) := by
  unfold Blocks.settleExpires
  simp only
  split
  · exact (setChannelOutput (o := { b.channelOutput c with settle := none }) b rfl).trans (failChannel c _)
  · exact setChannelOutput b rfl

theorem mismatchExpires (c : Channel) (b : Blocks) : ChannelEvent c b (b.mismatchExpires c) :=
  (setChannelOutput (o := { b.channelOutput c with mismatch := none }) b rfl).trans (failChannel c _)

end ChannelEvent

/-! ## A failure (08 R139, R144) -/

namespace Blocks

theorem superviseOutput_congr {b d : Blocks} (active : b.active = d.active) (c : Channel) (o : ChannelOutput) :
    b.superviseOutput c o = d.superviseOutput c o := by
  simp only [superviseOutput, mismatchRuns_congr active, entry_congr active]

/-- A channel put in a fault state and recomputed goes to its fallback value and is supervised there (01 R8). -/
theorem channelOutput_refault (b : Blocks) {c : Channel} {f : FaultState} (used : b.channelType c ≠ .unused)
    (fault : f ≠ .none) : ((b.setFault c f).refreshChannel c).channelOutput c
      = b.superviseOutput c (({ b.channelOutput c with fault := f } : ChannelOutput).driveTo
          ⟨b.channelType c, b.fallback c⟩ (b.entry c).settleTime) := by
  have drive : (b.setFault c f).driveOf c = ⟨b.channelType c, b.fallback c⟩ :=
    driveOf_fallback (b.setFault c f) c used (.inr (by simpa [Blocks.fault] using fault))
  rw [channelOutput_refreshChannel_self, refreshedOutput, drive, channelOutput_setFault_self]
  exact superviseOutput_congr rfl c _

theorem failChannel_of_none {b : Blocks} {c : Channel} (h : (b.channelOutput c).fault = .none) :
    b.failChannel c = ((b.setFault c .faulted).refreshChannel c).post
      (.readbackFault c (b.channelOutput c).drive (b.channelOutput c).readback) := by
  simp only [failChannel, h]

theorem failChannel_of_faulted {b : Blocks} {c : Channel} (h : (b.channelOutput c).fault = .faulted) :
    b.failChannel c = (((b.setFault c .unsafeState).refreshChannel c).post
      (.channelUnsafe c (b.channelOutput c).drive (b.channelOutput c).readback)).updateFailn := by
  simp only [failChannel, h]

theorem failChannel_of_unsafeState {b : Blocks} {c : Channel} (h : (b.channelOutput c).fault = .unsafeState) :
    b.failChannel c = b := by
  simp only [failChannel, h]

/-- FAILN is asserted while a channel is UNSAFE (05 R90). -/
theorem failnCondition_of_unsafeState {b : Blocks} {c : Channel} (h : b.fault c = .unsafeState) :
    b.failnCondition = true := by
  simp only [failnCondition, Bool.or_eq_true, List.any_eq_true]
  exact .inr ⟨c, List.mem_finRange c, by simp [h]⟩

end Blocks

section Failure

variable {b : Blocks} {c : Channel} {o : ChannelOutput} {t : State}
  (used : b.channelType c ≠ .unused) (output : b.channelOutput c = o) (blocks : t.toBlocks = b.failChannel c)

include used output blocks

/-- From NONE a failing channel goes FAULTED and to its fallback value, with READBACK_FAULT. -/
theorem failure_from_none (fault : o.fault = .none) :
    t.fault c = .faulted ∧ t.failn = b.failn ∧
    (t.channelOutput c).drive = ⟨b.channelType c, b.fallback c⟩ ∧
    (t.channelOutput c).settle
      = settleAfter o.drive o.settle ⟨b.channelType c, b.fallback c⟩ (b.entry c).settleTime ∧
    MismatchFollows t c o.mismatch ∧
    t.notices = b.notices.post b.vote.lastEnded (.readbackFault c o.drive o.readback) := by
  subst output
  rw [Blocks.failChannel_of_none fault] at blocks
  have failed := b.channelOutput_refault used (f := .faulted) (by decide)
  have after : t.channelOutput c = b.superviseOutput c
      (({ b.channelOutput c with fault := .faulted } : ChannelOutput).driveTo
        ⟨b.channelType c, b.fallback c⟩ (b.entry c).settleTime) := by
    rw [blocks]; exact failed
  refine ⟨by simp [Blocks.fault, after], by simp [blocks], by simp [after], ?_, ?_, by simp [blocks]⟩
  · simp [after, ChannelOutput.driveTo_settle]
  · have active : t.active = b.active := by simp [blocks]
    rw [← Blocks.superviseOutput_congr active] at after
    simpa using mismatchFollows_of_supervised t c _ after

/-- From FAULTED a failing channel goes UNSAFE, with CHANNEL_UNSAFE and FAILN. -/
theorem failure_from_faulted (fault : o.fault = .faulted) :
    t.fault c = .unsafeState ∧ t.failn = true ∧ (t.channelOutput c).mismatch = none ∧
    (t.channelOutput c).drive = ⟨b.channelType c, b.fallback c⟩ ∧
    (t.channelOutput c).settle
      = settleAfter o.drive o.settle ⟨b.channelType c, b.fallback c⟩ (b.entry c).settleTime ∧
    t.notices = b.notices.post b.vote.lastEnded (.channelUnsafe c o.drive o.readback) := by
  subst output
  rw [Blocks.failChannel_of_faulted fault] at blocks
  have failed := b.channelOutput_refault used (f := .unsafeState) (by decide)
  have after : t.channelOutput c = b.superviseOutput c
      (({ b.channelOutput c with fault := .unsafeState } : ChannelOutput).driveTo
        ⟨b.channelType c, b.fallback c⟩ (b.entry c).settleTime) := by
    rw [blocks]; exact failed
  have last : t.fault c = .unsafeState := by simp [Blocks.fault, after]
  refine ⟨last, ?_, ?_, by simp [after], by simp [after, ChannelOutput.driveTo_settle], by simp [blocks]⟩
  · have condition := Blocks.failnCondition_of_unsafeState last
    rw [blocks] at condition ⊢
    exact condition
  · rw [after]
    exact b.mismatch_superviseOutput_of_not c _ (b.mismatchRuns_unsafeState c _ (by simp))

end Failure

/-! ## The expiries -/

theorem settleExpiry_due {s : State} {c : Channel} (due : s.timer (.settle c) = some 0) :
    ∃ t, exec (.settleExpiry c) s = .next t ∧ OutsideKept s t ∧ t.staging = s.staging ∧
      t.toBlocks = s.toBlocks.settleExpires c :=
  ⟨_, congrArg Host.Outcome.next (s.expireNow_due _ none due), ⟨rfl, rfl, rfl⟩, rfl, rfl⟩

theorem mismatchExpiry_due {s : State} {c : Channel} (due : s.timer (.mismatch c) = some 0) :
    ∃ t, exec (.mismatchTimerExpiry c) s = .next t ∧ OutsideKept s t ∧ t.staging = s.staging ∧
      t.toBlocks = s.toBlocks.mismatchExpires c :=
  ⟨_, congrArg Host.Outcome.next (s.expireNow_due _ none due), ⟨rfl, rfl, rfl⟩, rfl, rfl⟩

/-- A supervised channel whose readback level disagrees with its driven state: what a settle expiry tests (08 R136). -/
def ReadbackFails (b : Blocks) (c : Channel) : Prop :=
  b.channelType c ≠ .unused ∧ (b.entry c).readbackChecked = true ∧
    (((b.channelOutput c).drive.energized = true ∧ (b.channelOutput c).readback = .deEnergized) ∨
      ((b.channelOutput c).drive.energized = false ∧ (b.channelOutput c).readback = .energized))

theorem readbackFails_iff (b : Blocks) (c : Channel) :
    ReadbackFails b c ↔ b.supervised c = true ∧ (b.channelOutput c).disagrees = true := by
  simp [ReadbackFails, Blocks.supervised, ChannelOutput.disagrees_iff, and_assoc]

/-- The output of a channel whose settle timer has stopped. -/
def settleStopped (b : Blocks) (c : Channel) : ChannelOutput := { b.channelOutput c with settle := none }

/-- The blocks when a settle timer has stopped, before its expiry has had any effect. -/
def settleConsumed (b : Blocks) (c : Channel) : Blocks := b.setChannelOutput c (settleStopped b c)

theorem channelOutput_settleConsumed (b : Blocks) (c : Channel) :
    (settleConsumed b c).channelOutput c = settleStopped b c :=
  b.channelOutput_setChannelOutput_self c _

/-- The output of a channel whose mismatch timer has stopped. -/
def mismatchStopped (b : Blocks) (c : Channel) : ChannelOutput := { b.channelOutput c with mismatch := none }

/-- The blocks when a mismatch timer has stopped, before its expiry has had any effect. -/
def mismatchConsumed (b : Blocks) (c : Channel) : Blocks := b.setChannelOutput c (mismatchStopped b c)

theorem channelOutput_mismatchConsumed (b : Blocks) (c : Channel) :
    (mismatchConsumed b c).channelOutput c = mismatchStopped b c :=
  b.channelOutput_setChannelOutput_self c _

/-- A mismatch timer that ran out fails the channel (08 R137). -/
theorem Blocks.mismatchExpires_eq (b : Blocks) (c : Channel) :
    b.mismatchExpires c = (mismatchConsumed b c).failChannel c := rfl

/-- A settle timer that ran out with the readback level disagreeing fails the channel (08 R136). -/
theorem Blocks.settleExpires_of_fails {b : Blocks} {c : Channel} (fails : ReadbackFails b c)
    (safe : (b.channelOutput c).fault ≠ .unsafeState) :
    b.settleExpires c = (settleConsumed b c).failChannel c := by
  obtain ⟨supervised, disagrees⟩ := (readbackFails_iff b c).mp fails
  have test : (b.supervised c && (settleStopped b c).fault != .unsafeState
      && (settleStopped b c).disagrees) = true := by
    simp only [Bool.and_eq_true, bne_iff_ne]
    exact ⟨⟨supervised, safe⟩, disagrees⟩
  exact if_pos test

/-- In any other case the timer only stops, and no mismatch timer runs either (08 R136, R137). -/
theorem Blocks.settleExpires_of_not_fails {b : Blocks} {c : Channel}
    (h : ¬ ReadbackFails b c ∨ (b.channelOutput c).fault = .unsafeState) :
    b.settleExpires c = b.setChannelOutput c { settleStopped b c with mismatch := none } := by
  have test : (b.supervised c && (settleStopped b c).fault != .unsafeState
      && (settleStopped b c).disagrees) = false := by
    rw [Bool.eq_false_iff]
    simp only [ne_eq, Bool.and_eq_true, bne_iff_ne]
    rintro ⟨⟨supervised, safe⟩, disagrees⟩
    exact h.elim (fun agrees => agrees ((readbackFails_iff b c).mpr ⟨supervised, disagrees⟩)) safe
  have idle : b.mismatchRuns c (settleStopped b c) = false := by
    simpa [mismatchRuns, settleStopped] using test
  have output : b.superviseOutput c (settleStopped b c) = { settleStopped b c with mismatch := none } := by
    simp only [superviseOutput, idle, Bool.false_eq_true, if_false]
  rw [← output]
  exact if_neg (Bool.eq_false_iff.mp test)

/-- Settles O46: each expiry is an event of its channel, and fails it as `failure_from_none` and
`failure_from_faulted` say from the output whose expired timer has stopped. -/
theorem settleAndMismatchExpiries : Obligations.SettleAndMismatchExpiries := by
  intro s c o kept failed fails
  refine ⟨fun due => ?_, fun due used => ?_⟩
  · obtain ⟨t, runs, outside, staging, blocks⟩ := settleExpiry_due due
    have event : ChannelEvent c s.toBlocks t.toBlocks := blocks ▸ ChannelEvent.settleExpires c s.toBlocks
    refine ⟨t, runs, ⟨outside, staging, event⟩, fun disagrees => ?_, fun stops => ?_⟩
    · have used : (settleConsumed s.toBlocks c).channelType c ≠ .unused := disagrees.1
      have failing (safe : o.fault ≠ .unsafeState) : t.toBlocks = (settleConsumed s.toBlocks c).failChannel c :=
        blocks.trans (Blocks.settleExpires_of_fails disagrees safe)
      have consumed := channelOutput_settleConsumed s.toBlocks c
      have from_none (fault : o.fault = .none) :=
        failure_from_none used consumed (failing (by simp [fault])) fault
      have from_faulted (fault : o.fault = .faulted) :=
        failure_from_faulted used consumed (failing (by simp [fault])) fault
      exact ⟨from_none, from_faulted⟩
    · rw [Blocks.settleExpires_of_not_fails stops] at blocks
      have output : t.channelOutput c = { settleStopped s.toBlocks c with mismatch := none } := by simp [blocks]
      exact ⟨(congrArg ChannelOutput.fault output :), by rw [blocks]; rfl, (congrArg ChannelOutput.settle output :),
        (congrArg ChannelOutput.drive output :), (congrArg ChannelOutput.mismatch output :), by rw [blocks]; rfl⟩
  · obtain ⟨t, runs, outside, staging, blocks⟩ := mismatchExpiry_due due
    have event : ChannelEvent c s.toBlocks t.toBlocks := blocks ▸ ChannelEvent.mismatchExpires c s.toBlocks
    rw [Blocks.mismatchExpires_eq] at blocks
    have used : (mismatchConsumed s.toBlocks c).channelType c ≠ .unused := used
    have consumed := channelOutput_mismatchConsumed s.toBlocks c
    have from_none := failure_from_none used consumed blocks
    have from_faulted := failure_from_faulted used consumed blocks
    refine ⟨t, runs, ⟨outside, staging, event⟩, ⟨from_none, from_faulted⟩, fun last => ?_⟩
    rw [Blocks.failChannel_of_unsafeState (by rw [consumed]; exact last)] at blocks
    have output : t.channelOutput c = mismatchStopped s.toBlocks c := by rw [blocks, consumed]
    exact ⟨(congrArg ChannelOutput.fault output :), by rw [blocks]; rfl, (congrArg ChannelOutput.drive output :),
      (congrArg ChannelOutput.settle output :), (congrArg ChannelOutput.mismatch output :), by rw [blocks]; rfl⟩

end Sys2Proof.Machine
end

section
/-! # Exclusion resolution (03 R45, R46)

What a group withholds, what a channel resolves to, and why two members of a group do not both resolve ON. -/

namespace Sys2Proof.Machine

/-- At most one of the channels is ON in the image. -/
def OneOn (image : Channel → Nat) (members : List Channel) : Prop :=
  ∀ c ∈ members, ∀ d ∈ members, image c = 1 → image d = 1 → c = d

section Group

variable {previous candidates : Channel → Nat} {members : List Channel} {c d : Channel}

theorem mem_groupRisers : c ∈ groupRisers candidates members ↔ c ∈ members ∧ candidates c = 1 := by
  simp [groupRisers]

/-- In a group with one member ON at most, the holder P is the member that is ON (03 R45). -/
theorem groupHolder_eq_some_iff (unique : OneOn previous members) :
    groupHolder previous members = some c ↔ c ∈ members ∧ previous c = 1 := by
  constructor
  · intro found
    exact ⟨List.mem_of_find?_eq_some found, by simpa using List.find?_some found⟩
  · rintro ⟨member, on⟩
    cases found : groupHolder previous members with
    | none => exact absurd on (by simpa using List.find?_eq_none.mp found c member)
    | some p =>
      have holds : previous p = 1 := by simpa using List.find?_some found
      rw [unique p (List.mem_of_find?_eq_some found) c member holds on]

/-- A group with one rising member at most withholds nothing (03 R45). -/
theorem groupWithholds_of_one_riser (few : (groupRisers candidates members).length ≤ 1) :
    groupWithholds previous candidates members c = false := by
  have quiet : decide (2 ≤ (groupRisers candidates members).length) = false := decide_eq_false (by omega)
  simp [groupWithholds, quiet]

/-- A contended group withholds its rising members but the holder (03 R45). -/
theorem groupWithholds_iff_of_contended (unique : OneOn previous members)
    (contended : 2 ≤ (groupRisers candidates members).length) :
    groupWithholds previous candidates members c = true ↔ c ∈ members ∧ candidates c = 1 ∧ previous c ≠ 1 := by
  simp only [groupWithholds, contended, decide_true, Bool.true_and, Bool.and_eq_true, List.contains_iff_mem,
    mem_groupRisers, bne_iff_ne, ne_eq, groupHolder_eq_some_iff unique]
  constructor
  · rintro ⟨⟨member, rises⟩, no_holder⟩
    exact ⟨member, rises, fun on => no_holder ⟨member, on⟩⟩
  · rintro ⟨member, rises, off⟩
    exact ⟨⟨member, rises⟩, fun ⟨_, on⟩ => off on⟩

/-- The holder of a group is never withheld by it. -/
theorem previous_ne_of_groupWithholds (unique : OneOn previous members)
    (withheld : groupWithholds previous candidates members c = true) : previous c ≠ 1 := by
  rcases Nat.lt_or_ge (groupRisers candidates members).length 2 with few | contended
  · rw [groupWithholds_of_one_riser (by omega)] at withheld
    cases withheld
  · obtain ⟨-, -, off⟩ := (groupWithholds_iff_of_contended unique contended).mp withheld
    exact off

/-- Two rising members make a group contended. -/
theorem contended_of_rising (distinct : c ≠ d) (hc : c ∈ groupRisers candidates members)
    (hd : d ∈ groupRisers candidates members) : 2 ≤ (groupRisers candidates members).length := by
  match risers : groupRisers candidates members with
  | [] =>
    rw [risers] at hc
    cases hc
  | [x] =>
    rw [risers, List.mem_singleton] at hc hd
    exact absurd (hc.trans hd.symm) distinct
  | _ :: _ :: _ => exact Nat.le_add_left 2 _

/-- Of two rising members of a group, one that the group does not withhold is the holder. -/
theorem previous_eq_of_not_withheld (unique : OneOn previous members) (distinct : c ≠ d) (hc : c ∈ members)
    (hd : d ∈ members) (rises_c : candidates c = 1) (rises_d : candidates d = 1)
    (passes : groupWithholds previous candidates members c = false) : previous c = 1 := by
  have contended := contended_of_rising distinct (mem_groupRisers.mpr ⟨hc, rises_c⟩) (mem_groupRisers.mpr ⟨hd, rises_d⟩)
  refine Decidable.byContradiction fun off => ?_
  rw [(groupWithholds_iff_of_contended unique contended).mpr ⟨hc, rises_c, off⟩] at passes
  cases passes

end Group

section Resolution

variable (groups : Table 12 (List Channel)) (previous candidates : Channel → Nat)

/-- The withholding set of a channel has each group that withholds it (03 R46). -/
theorem has_withholdingGroups (c : Channel) (g : Fin 12) :
    (withholdingGroups groups previous candidates c).has g
      = groupWithholds previous candidates (groups.row g) c := by
  simp [withholdingGroups]

theorem resolvedValue_of_withheld {c : Channel}
    (withheld : ∃ g, groupWithholds previous candidates (groups.row g) c = true) :
    resolvedValue groups previous candidates c = previous c := by
  obtain ⟨g, withheld⟩ := withheld
  rw [← has_withholdingGroups] at withheld
  refine if_neg fun empty => ?_
  rw [empty] at withheld
  simp at withheld

theorem resolvedValue_of_not_withheld {c : Channel}
    (passes : ∀ g, groupWithholds previous candidates (groups.row g) c = false) :
    resolvedValue groups previous candidates c = candidates c := by
  refine if_pos ((IndexSet.eq_zero_iff _).mpr fun g => ?_)
  rw [has_withholdingGroups]
  exact passes g

end Resolution

/-- Settles O43: the group's part is the two cases by the number of rising members, the channel's part the value by whether
a group withholds it. -/
theorem groupWithholdsAllButTheHolder : Obligations.GroupWithholdsAllButTheHolder := by
  intro previous candidates c
  refine ⟨fun members _ unique => ?_, fun groups => ⟨has_withholdingGroups groups previous candidates c, ?_⟩⟩
  · have risers : members.filter (fun x => decide (candidates x = 1)) = groupRisers candidates members := rfl
    simp only [risers]
    exact ⟨groupWithholds_of_one_riser, groupWithholds_iff_of_contended unique⟩
  · split
    · rename_i withheld
      exact resolvedValue_of_withheld groups previous candidates withheld
    · rename_i passes
      exact resolvedValue_of_not_withheld groups previous candidates (by simpa using passes)

section ResolvedOn

variable {groups : Table 12 (List Channel)} {previous candidates : Channel → Nat}
  (unique : ∀ g, OneOn previous (groups.row g))

include unique

/-- A channel that resolves ON rises, and no group withholds it: a withheld one was not ON before (03 R46). -/
theorem rises_of_resolvedValue_on {c : Channel} (on : resolvedValue groups previous candidates c = 1) :
    candidates c = 1 ∧ ∀ g, groupWithholds previous candidates (groups.row g) c = false := by
  by_cases withheld : ∃ g, groupWithholds previous candidates (groups.row g) c = true
  · rw [resolvedValue_of_withheld groups previous candidates withheld] at on
    obtain ⟨g, withheld⟩ := withheld
    exact absurd on (previous_ne_of_groupWithholds (unique g) withheld)
  · have passes : ∀ g, groupWithholds previous candidates (groups.row g) c = false := by simpa using withheld
    rw [resolvedValue_of_not_withheld groups previous candidates passes] at on
    exact ⟨on, passes⟩

/-- Resolution leaves one member ON at most in every group: of two that rise, only the holder passes (03 R44, R45). -/
theorem oneOn_resolvedValue (g : Fin 12) : OneOn (resolvedValue groups previous candidates) (groups.row g) := by
  intro c hc d hd on_c on_d
  obtain ⟨rises_c, passes_c⟩ := rises_of_resolvedValue_on unique on_c
  obtain ⟨rises_d, passes_d⟩ := rises_of_resolvedValue_on unique on_d
  refine Decidable.byContradiction fun distinct => ?_
  exact distinct (unique g c hc d hd
    (previous_eq_of_not_withheld (unique g) distinct hc hd rises_c rises_d (passes_c g))
    (previous_eq_of_not_withheld (unique g) (Ne.symm distinct) hd hc rises_d rises_c (passes_d g)))

end ResolvedOn

end Sys2Proof.Machine
end

section
/-! # The groups of a valid image (03 R43, 07 R119) -/

namespace Sys2Proof.Machine

/-- Every member of an exclusion group is DISCRETE with fallback OFF (03 R43). -/
def MembersFallOff (r : ConfigRecord) : Prop :=
  ∀ g c, c ∈ r.groups.row g → (r.entries.row c).type = .discrete ∧ (r.entries.row c).fallback = 0

theorem membersFallOff_noneActive : MembersFallOff ConfigRecord.noneActive := by
  intro g c member
  simp [ConfigRecord.noneActive] at member

/-- A valid image passes the checks of 03 R43 for every group. -/
theorem checkGroup_of_validate {m : Memory} (h : validate m = none) (g : Fin 12) : checkGroup m g.val = none :=
  eq_none_of_firstFailure h (List.mem_append_left _ (List.mem_append_right _
    (List.mem_map_of_mem (List.mem_range.mpr g.isLt))))

theorem memberIsDiscrete_of_membersValid {m : Memory} {seen members : List Nat}
    (h : membersValid m seen members = true) {n : Nat} (hn : n ∈ members) : memberIsDiscrete m n = true := by
  induction members generalizing seen with
  | nil => cases hn
  | cons x rest ih =>
    simp only [membersValid, Bool.and_eq_true] at h
    obtain ⟨⟨discrete, -⟩, later⟩ := h
    rcases List.mem_cons.mp hn with rfl | hn
    · exact discrete
    · exact ih later hn

/-- The members of a group that passes: DISCRETE channels with fallback OFF. -/
theorem member_of_checkGroup {m : Memory} {g n : Nat} (h : checkGroup m g = none) (hn : n ∈ groupMembers m g) :
    memberIsDiscrete m n = true ∧ (imageEntry m n .discrete).fallback = 0 := by
  unfold checkGroup at h
  split at h
  · cases h
  split at h
  · cases h
  rename_i valid
  split at h
  · cases h
  rename_i off
  have fallback := List.any_eq_false.mp (Bool.eq_false_iff.mpr off) n hn
  exact ⟨memberIsDiscrete_of_membersValid (by simpa using valid) hn, by simpa using fallback⟩

theorem membersFallOff_of_validate {m : Memory} (h : validate m = none) : MembersFallOff (decodeConfig m) := by
  intro g c member
  simp only [decodeConfig, Table.row_build, List.mem_map] at member
  obtain ⟨n, listed, rfl⟩ := member
  obtain ⟨discrete, off⟩ := member_of_checkGroup (checkGroup_of_validate h g) listed
  simp only [memberIsDiscrete, Bool.and_eq_true, decide_eq_true_eq, beq_iff_eq] at discrete
  obtain ⟨small, code⟩ := discrete
  have number : (memberChannel n).val = n := Nat.mod_eq_of_lt (by omega)
  simp only [decodeConfig, Table.row_build, number, code]
  exact ⟨rfl, off⟩

end Sys2Proof.Machine
end

section
/-! # What an event can do to the agreed image and the drives

An event of the blocks is a chain of the steps of `Reaches`: whatever they all keep, every event keeps. -/

namespace Sys2Proof.Machine

/-- Configuration, agreed image and drives stand, and no record becomes pending. -/
def KeepsImages (b d : Blocks) : Prop :=
  d.active = b.active ∧ (∀ p, d.pendingRecord = some p → b.pendingRecord = some p) ∧
  d.vote.channels = b.vote.channels ∧ ∀ c, (d.channelOutput c).drive = (b.channelOutput c).drive

/-- The blocks with the channel records that a commit writes, before it recomputes the drives (02 R35). -/
def Blocks.committedInputs (b : Blocks) : Blocks :=
  { b with vote := { b.vote with channels := Table.build (b.committedRecord b.evaluate), deadline := none } }

/-- The blocks at SAFE_HOLD entry before step 3 recomputes the drives (05 R82). -/
def Blocks.safeHoldInputs (b : Blocks) : Blocks :=
  ({ b with device := .safeHold } : Blocks).discardRound.writeFallbackImage

theorem Blocks.safeHoldSteps_eq (b : Blocks) : b.safeHoldSteps =
    (b.safeHoldInputs.refreshOutputs.postState .running .safeHold .quorumLost).admitReady := rfl

/-- The blocks `b` come from `a` by steps that each leave agreed image and drives, recompute drives, set a valid record
pending, or write the agreed image and recompute the drives: a commit, or the fallback image, which a switch writes for
the pending configuration (01 R6, R9). -/
inductive Reaches (a : Blocks) : Blocks → Prop
  | refl : Reaches a a
  | keeping {b d : Blocks} (h : Reaches a b) (kept : KeepsImages b d) : Reaches a d
  | refreshOutputs {b : Blocks} (h : Reaches a b) : Reaches a b.refreshOutputs
  | refreshChannel {b : Blocks} (h : Reaches a b) (c : Channel) : Reaches a (b.refreshChannel c)
  | pending {b : Blocks} (h : Reaches a b) (p : PendingRecord) (valid : validate p.image = none) :
      Reaches a { b with pendingRecord := some p }
  | committed {b : Blocks} (h : Reaches a b) : Reaches a b.committedInputs.refreshOutputs
  | fallbackImage {b d : Blocks} (h : Reaches a b)
      (active : d.active = b.active ∨
        ∃ p, b.pendingRecord = some p ∧ d.active = some ⟨decodeConfig p.image, p.digest⟩)
      (pending : ∀ p, d.pendingRecord = some p → b.pendingRecord = some p)
      (agreed : ∀ c, d.agreed c = d.fallback c) : Reaches a d.refreshOutputs

namespace Reaches

variable {a b : Blocks}

/-- The parts the drive law speaks of stand. -/
theorem same (h : Reaches a b) {d : Blocks} (same : SameDrives d b) : Reaches a d := by
  obtain ⟨-, active, pending, vote, output⟩ := same
  exact h.keeping ⟨active, fun p => by rw [pending]; exact id, by rw [vote],
    fun c => by rw [Blocks.channelOutput_congr output]⟩

/-- A change of what the drives depend on besides configuration and agreed image, and the recomputation after it. -/
theorem refreshed (h : Reaches a b) {d : Blocks} (kept : KeepsImages b d) : Reaches a d.refreshOutputs :=
  (h.keeping kept).refreshOutputs

/-! ## The output stage -/

theorem setChannelOutput (h : Reaches a b) {c : Channel} {o : ChannelOutput}
    (drive : o.drive = (b.channelOutput c).drive) : Reaches a (b.setChannelOutput c o) := by
  refine h.keeping ⟨rfl, fun _ => id, rfl, fun d => ?_⟩
  by_cases e : d = c
  · subst e
    rw [Blocks.channelOutput_setChannelOutput_self, drive]
  · rw [Blocks.channelOutput_setChannelOutput_of_ne b e]

theorem refault (h : Reaches a b) (c : Channel) (f : FaultState) :
    Reaches a ((b.setFault c f).refreshChannel c) :=
  (h.setChannelOutput (o := { b.channelOutput c with fault := f }) rfl).refreshChannel c

theorem failChannel (h : Reaches a b) (c : Channel) : Reaches a (b.failChannel c) := by
  unfold Blocks.failChannel
  simp only
  split
  · exact (h.refault c .faulted).same ⟨rfl, rfl, rfl, rfl, rfl⟩
  · exact (h.refault c .unsafeState).same ⟨rfl, rfl, rfl, rfl, rfl⟩
  · exact h

theorem settleExpires (h : Reaches a b) (c : Channel) : Reaches a (b.settleExpires c) := by
  unfold Blocks.settleExpires
  simp only
  split
  · exact (h.setChannelOutput (o := { b.channelOutput c with settle := none }) rfl).failChannel c
  · exact h.setChannelOutput rfl

theorem mismatchExpires (h : Reaches a b) (c : Channel) : Reaches a (b.mismatchExpires c) :=
  (h.setChannelOutput (o := { b.channelOutput c with mismatch := none }) rfl).failChannel c

theorem readbackChanges (h : Reaches a b) (c : Channel) (level : ReadbackLevel) :
    Reaches a (b.readbackChanges c level) :=
  h.setChannelOutput rfl

theorem clearFault (h : Reaches a b) (c : Channel) : Reaches a (b.clearFault c) := by
  have cleared := h.setChannelOutput (o := { b.channelOutput c with fault := .none }) rfl
  have posted : Reaches a ((b.setFault c .none).post (.faultCleared c (b.fault c))) :=
    cleared.same ⟨rfl, rfl, rfl, rfl, rfl⟩
  exact (posted.refreshChannel c).same ⟨rfl, rfl, rfl, rfl, rfl⟩

theorem timersLater (h : Reaches a b) : Reaches a b.timersLater :=
  h.keeping ⟨rfl, fun _ => id, rfl, fun c => by simp [Blocks.timersLater, Blocks.channelOutput]⟩

theorem acceptVeto (h : Reaches a b) (l : Lane) (entries : List (Channel × Bool)) :
    Reaches a (b.acceptVeto l entries) :=
  h.refreshed ⟨rfl, fun _ => id, rfl, fun _ => rfl⟩

/-! ## Lanes (04 R65 to R74) -/

theorem setLane (h : Reaches a b) (l : Lane) (r : LaneRecord) : Reaches a (b.setLane l r) :=
  h.same ⟨rfl, rfl, rfl, rfl, rfl⟩

theorem vetoStep (h : Reaches a b) (l : Lane) (new : LaneState) : Reaches a (b.vetoStep l new true) := by
  unfold Blocks.vetoStep
  split
  · exact h.refreshed (d := b.dropVetoes l) ⟨rfl, fun _ => id, rfl, fun _ => rfl⟩
  · exact h

theorem moveLane (h : Reaches a b) (l : Lane) (r : LaneRecord) (cause : MemberCause) :
    Reaches a (b.moveLane l r cause true) :=
  ((h.setLane l r).vetoStep l r.state).same (by simp [SameDrives, Blocks.moveLane])

theorem admitLane (h : Reaches a b) (l : Lane) : Reaches a (b.admitLane l) := by
  unfold Blocks.admitLane
  split
  · exact h.moveLane ..
  · exact h

theorem admitReady (h : Reaches a b) : Reaches a b.admitReady :=
  List.foldlRecOn _ _ h fun _ moved l _ => moved.admitLane l

theorem excludeAtThreshold (h : Reaches a b) (l : Lane) : Reaches a (b.excludeAtThreshold l) := by
  unfold Blocks.excludeAtThreshold
  split
  · exact h.moveLane ..
  · exact h

theorem applyReport (h : Reaches a b) (report : List (Lane × Bool)) : Reaches a (b.applyReport report) := by
  have struck : Reaches a (report.foldl Blocks.applyStrike b) :=
    List.foldlRecOn _ _ h fun _ reached _ _ => reached.setLane ..
  exact admitReady (List.foldlRecOn _ _ struck fun _ moved l _ => moved.excludeAtThreshold l)

theorem removeSupporter (h : Reaches a b) (l : Lane) (concerned : Ballot → Bool) :
    Reaches a (b.removeSupporter l concerned) :=
  h.same (by simp [SameDrives])

/-! ## The device state and the switch (05 R81 to R87, 07 R124) -/

/-- A switch writes the fallback image of the pending configuration and recomputes the drives. -/
theorem switchTo (h : Reaches a b) {p : PendingRecord} (pending : b.pendingRecord = some p) :
    Reaches a (b.switchTo p) := by
  rw [Blocks.switchTo_eq]
  generalize inputs_eq : ((b.switchedInputs p).post (.configSwitched (b.active.map ActiveConfig.digest)
    p.digest)).discardBallots.switchLanes = inputs
  have active : inputs.active = some ⟨decodeConfig p.image, p.digest⟩ := by simp [← inputs_eq, Blocks.switchedInputs]
  have cleared : inputs.pendingRecord = none := by simp [← inputs_eq, Blocks.switchedInputs]
  have vote : inputs.vote = (b.switchedInputs p).vote := by simp [← inputs_eq]
  have agreed : ∀ c, inputs.agreed c = inputs.fallback c := fun c => by
    rw [Blocks.fallback_congr (d := b.switchedInputs p) active, Blocks.agreed, vote]
    exact congrArg ChannelRecord.agreed (Table.row_build _ c)
  have recomputed := h.fallbackImage (.inr ⟨p, pending, active⟩) (by simp [cleared]) agreed
  exact recomputed.same (d := inputs.refreshOutputs.updateFailn) ⟨rfl, rfl, rfl, rfl, rfl⟩

theorem carryOutPending (h : Reaches a b) : Reaches a b.carryOutPending := by
  unfold Blocks.carryOutPending
  split
  · rename_i p pending
    exact h.switchTo pending
  · exact h

theorem openRunning (h : Reaches a b) :
    Reaches a (({ b with device := .running } : Blocks).openNextRound.refreshOutputs) :=
  h.refreshed ⟨rfl, fun _ => id, rfl, fun _ => rfl⟩

theorem enterRunning (h : Reaches a b) : Reaches a b.enterRunning := by
  have restarted : Reaches a b.restartVotingLeases := h.same ⟨rfl, rfl, rfl, rfl, rfl⟩
  exact restarted.openRunning.same ⟨rfl, rfl, rfl, rfl, rfl⟩

theorem resume (h : Reaches a b) : Reaches a b.resume :=
  h.openRunning.same ⟨rfl, rfl, rfl, rfl, rfl⟩

/-- SAFE_HOLD begins with the fallback image of the configuration in force (05 R82). -/
theorem safeHoldSteps (h : Reaches a b) : Reaches a b.safeHoldSteps := by
  have agreed : ∀ c, b.safeHoldInputs.agreed c = b.safeHoldInputs.fallback c := fun c => by
    rw [Blocks.agreed, Blocks.safeHoldInputs, Blocks.writeFallbackImage_channels, Table.row_build]
    exact Blocks.fallback_congr (by simp) c
  have recomputed := h.fallbackImage (d := b.safeHoldInputs) (.inl (by simp [Blocks.safeHoldInputs]))
    (by simp [Blocks.safeHoldInputs]) agreed
  have posted : Reaches a (b.safeHoldInputs.refreshOutputs.postState .running .safeHold .quorumLost) :=
    recomputed.same ⟨rfl, rfl, rfl, rfl, rfl⟩
  rw [Blocks.safeHoldSteps_eq]
  exact posted.admitReady

theorem enterSafeHold (h : Reaches a b) : Reaches a b.enterSafeHold := h.safeHoldSteps.carryOutPending

theorem enterLockout (h : Reaches a b) (cause : LockoutCause) : Reaches a (b.enterLockout cause) := by
  have inputs : Reaches a (b.lockoutInputs cause) :=
    h.keeping (by simp [KeepsImages, Blocks.lockoutInputs, Blocks.channelOutput])
  rw [Blocks.enterLockout_eq]
  exact inputs.refreshOutputs.same ⟨rfl, rfl, rfl, rfl, rfl⟩

theorem reportCount (h : Reaches a b) : Reaches a b.reportCount := by
  unfold Blocks.reportCount
  split
  · split
    · exact h.enterRunning
    · exact h
  · split
    · exact h
    · exact h.enterSafeHold
  all_goals exact h

theorem switchAtClose (h : Reaches a b) : Reaches a b.switchAtClose := by
  unfold Blocks.switchAtClose
  split
  · rename_i p _ pending
    split
    · exact h.switchTo pending
    · exact (h.switchTo pending).safeHoldSteps
  · exact h

/-! ## The round (02 R19 to R27) -/

theorem commitRound (h : Reaches a b) : Reaches a (b.commitRound b.evaluate) :=
  h.committed.keeping (by simp [KeepsImages, Blocks.commitRound, Blocks.committedInputs, Blocks.channelOutput])

theorem closeRound (h : Reaches a b) (evalB : Option Evaluation) : Reaches a (b.closeRound evalB) := by
  unfold Blocks.closeRound
  split
  · exact (h.commitRound.applyReport _).reportCount.switchAtClose
  · exact h.enterLockout _

theorem retest (h : Reaches a b) (evalB : Option Evaluation) : Reaches a (b.retest evalB) := by
  unfold Blocks.retest
  split
  · exact h.closeRound evalB
  · exact h

theorem closeIfComplete (h : Reaches a b) (evalB : Option Evaluation) : Reaches a (b.closeIfComplete evalB) := by
  unfold Blocks.closeIfComplete
  split
  · exact h.closeRound evalB
  · exact h

theorem storeProposal (h : Reaches a b) (l : Lane) (entries : List (Channel × Nat)) :
    Reaches a (b.storeProposal l entries) := by
  unfold Blocks.storeProposal
  split
  all_goals exact h.keeping ⟨rfl, fun _ => id, rfl, fun _ => rfl⟩

/-- Seven refusals leave the blocks before the entries are looked at (02 R19). -/
theorem propose (h : Reaches a b) (l : Lane) (round : BitVec 16) (entries : List (Nat × Nat))
    (evalB : Option Evaluation) : Reaches a (b.propose l round entries evalB).1 := by
  unfold Blocks.propose
  iterate 7
    split
    · exact h
  split
  · exact h
  · exact (h.storeProposal l _).closeIfComplete evalB

/-! ## Lane events outside a close (04) -/

theorem laneEvent (h : Reaches a b) (l : Lane) (r : LaneRecord) (cause : MemberCause) (evalB : Option Evaluation) :
    Reaches a (b.laneEvent l r cause evalB) := by
  unfold Blocks.laneEvent
  simp only
  split
  · exact ((h.moveLane l r cause).retest evalB).reportCount
  · exact h.moveLane l r cause

theorem admitOutsideRunning (h : Reaches a b) (l : Lane) : Reaches a (b.admitOutsideRunning l) := by
  unfold Blocks.admitOutsideRunning
  split
  · exact (h.admitLane l).reportCount
  · exact (h.admitLane l).reportCount
  all_goals exact h

theorem join (h : Reaches a b) (l : Lane) (digest : Digest) : Reaches a (b.join l digest).1 := by
  unfold Blocks.join
  split
  · exact h
  · exact h.moveLane ..
  · split
    · exact h
    split
    · exact h
    · exact (h.moveLane ..).admitOutsideRunning l
  iterate 4 exact h
  · exact h.setLane ..

theorem leave (h : Reaches a b) (l : Lane) (evalB : Option Evaluation) : Reaches a (b.leave l evalB).1 := by
  unfold Blocks.leave
  split
  iterate 3 exact h
  all_goals exact h.laneEvent ..

theorem renew (h : Reaches a b) (l : Lane) : Reaches a (b.renew l) := by
  unfold Blocks.renew
  split
  iterate 4 exact h
  · exact h.setLane ..
  · exact h.setLane ..
  · split
    · exact h.setLane ..
    · exact (h.setLane ..).admitOutsideRunning l

theorem leaseExpires (h : Reaches a b) (l : Lane) (evalB : Option Evaluation) :
    Reaches a (b.leaseExpires l evalB) := by
  unfold Blocks.leaseExpires
  simp only
  split
  · exact h.laneEvent ..
  · exact h.laneEvent ..
  · split
    · exact h.setLane ..
    · exact h
  all_goals exact h

theorem graceExpires (h : Reaches a b) (l : Lane) : Reaches a (b.graceExpires l) := by
  unfold Blocks.graceExpires
  simp only
  split
  · exact h.laneEvent ..
  · exact h

/-! ## Ballots (06 R96 to R105) -/

theorem firstSwitch (h : Reaches a b) : Reaches a b.firstSwitch := by
  have gathering : Reaches a ({ b.carryOutPending with device := .gathering } : Blocks) :=
    h.carryOutPending.keeping ⟨rfl, fun _ => id, rfl, fun _ => rfl⟩
  have posted : Reaches a (({ b.carryOutPending with device := .gathering } : Blocks).postState .unconfigured
      .gathering .firstSwitch) := gathering.same ⟨rfl, rfl, rfl, rfl, rfl⟩
  exact posted.admitReady.reportCount

theorem commitConfig (h : Reaches a b) {image : Memory} (valid : validate image = none) (d : Digest) :
    Reaches a (b.commitConfig image d) := by
  have pending := h.pending ⟨image, d⟩ valid
  unfold Blocks.commitConfig
  simp only
  split
  · exact pending.firstSwitch
  · exact pending.carryOutPending
  all_goals exact pending

theorem carryOut (h : Reaches a b) {staging : Staging} {supporters : LaneSet} {action : BallotAction}
    (images : ImagesOf staging supporters action) : Reaches a (b.carryOut staging supporters action) := by
  cases action with
  | clearFault c => exact h.clearFault c
  | readmit l => exact (h.moveLane ..).admitOutsideRunning l
  | resume => exact h.resume
  | commitConfig d =>
    simp only [Blocks.carryOut]
    split
    · rename_i l lowest
      have member : IndexSet.has supporters l = true := (IndexSet.mem_members _ _).mp (List.mem_of_head? lowest)
      exact h.commitConfig (images d rfl l member) d
    · exact h

theorem addSupport (h : Reaches a b) {staging : Staging} {l : Lane} {x : Ballot}
    (images : ImagesOf staging (x.supporters.insert l) x.action) : Reaches a (b.addSupport staging l x).1 := by
  have removed : Reaches a ((b.removeBallot x.slot).post (.ballotPassed x.slot x.action (x.supporters.insert l))) :=
    h.same ⟨rfl, rfl, rfl, rfl, rfl⟩
  unfold Blocks.addSupport
  simp only
  split
  · exact removed.carryOut images
  · exact h.same ⟨rfl, rfl, rfl, rfl, rfl⟩

theorem supportTable (h : Reaches a b) {staging : Staging} {l : Lane} {action : BallotAction}
    (images : ∀ x ∈ b.ballots, x.action = action → ImagesOf staging (x.supporters.insert l) action) :
    Reaches a (b.supportTable staging l action).1 := by
  unfold Blocks.supportTable
  split
  · rename_i x found
    split
    · exact h
    · have same : x.action = action := by simpa using List.find?_some found
      exact h.addSupport (same ▸ images x (List.mem_of_find?_eq_some found) same)
  · exact h.same ⟨rfl, rfl, rfl, rfl, rfl⟩
  · exact h

end Reaches

/-- A lane that may support an action holds a valid image of it, as the supporters of its ballot do (06 R97). -/
theorem imagesOf_of_applicable {s : State} (images : ImagesValid s) {l : Lane} {action : BallotAction}
    (applicable : s.toBlocks.inapplicable s.staging l action = none) {x : Ballot} (listed : x ∈ s.ballots)
    (same : x.action = action) : ImagesOf s.staging (x.supporters.insert l) action := by
  obtain ⟨sealed_valid, -, -, carried, -⟩ := images
  have valid : ∀ m d, (s.staging.row m).carries d = true → validate (s.staging.row m).image = none := by
    intro m d carries
    simp only [StagingArea.carries, Bool.and_eq_true, beq_iff_eq] at carries
    obtain ⟨sealed, -⟩ := carries
    exact sealed_valid m sealed
  rintro d rfl m supports
  rw [IndexSet.has_insert, Bool.or_eq_true, decide_eq_true_eq] at supports
  rcases supports with old | rfl
  · exact valid m d (carried x listed d same m old)
  · exact valid l d (Blocks.carries_of_applicable applicable)

theorem reaches_support {s : State} (images : ImagesValid s) (l : Lane) (action : BallotAction) :
    Reaches s.toBlocks (s.toBlocks.support s.staging l action).1 := by
  unfold Blocks.support
  split
  · exact .refl
  split
  · exact .refl
  split
  · exact .refl
  · rename_i applicable
    exact Reaches.refl.supportTable fun _ listed same => imagesOf_of_applicable images applicable listed same

/-! ## Events -/

/-- What a request can do to the agreed image and the drives. -/
theorem reaches_handled {s : State} (images : ImagesValid s) (l : Lane) (kind : Byte) (payload : List Byte)
    (evalB : Option Evaluation) : Reaches s.toBlocks (handlerOf l kind payload evalB s.toBlocks s.staging).blocks := by
  have h : Reaches s.toBlocks s.toBlocks := .refl
  generalize taken : handlerOf l kind payload evalB = handle
  unfold handlerOf at taken
  split at taken <;> subst taken
  · unfold handleJoin
    split
    · exact h.renew l
    · exact (h.join ..).renew l
  · unfold handleLeave
    split
    · exact h
    · exact h.leave ..
  · unfold handleKeepalive
    split
    · exact h.renew l
    · exact h.renew l
  · unfold handlePropose
    split
    · exact h.renew l
    · exact (h.propose ..).renew l
  · unfold handleVeto
    split
    · exact h
    iterate 3
      split
      · exact h
    split
    · exact h
    · exact h.acceptVeto ..
  · unfold handleSupport
    split
    · exact h
    · rw [blocks_served]
      exact reaches_support images ..
  · rwa [blocks_handleStageWrite]
  · rwa [blocks_handleStageSeal]
  · unfold handleStageOpen
    split
    · exact h
    split
    · exact h
    split
    · exact h
    · exact h
    · rw [blocks_unchanged]
      split
      · exact h.removeSupporter ..
      · exact h
  · rwa [blocks_handleReadStaging]
  · unfold handleFetchNotices
    split
    · exact h
    split
    · exact h
    · exact h.same ⟨rfl, rfl, rfl, rfl, rfl⟩
  · rwa [blocks_handleReadStatus]
  · rwa [blocks_handleReadChannels]
  · rwa [blocks_handleReadBallots]
  · rwa [blocks_handleUnknown]

/-- What an expiry can do to the agreed image and the drives. -/
theorem reaches_expired (s : State) (n : TimerName) (evalB : Option Evaluation) :
    Reaches s.toBlocks (s.expire evalB n).toBlocks := by
  have h : Reaches s.toBlocks s.toBlocks := .refl
  cases n with
  | deadline => exact h.closeRound evalB
  | lease l => exact h.leaseExpires l evalB
  | grace l => exact h.graceExpires l
  | lifetime slot =>
    simp only [State.expire]
    split
    · exact h.same ⟨rfl, rfl, rfl, rfl, rfl⟩
    · exact h
  | sealing l => exact h
  | settle c => exact h.settleExpires c
  | mismatch c => exact h.mismatchExpires c

/-- Every event of the blocks but a reset is a chain of the steps of `Reaches`. -/
theorem reset_or_reaches {s : State} (images : ImagesValid s) {b : Blocks} (event : BlocksEvent s b) :
    (∃ record, b = { Blocks.reset with lockoutRecord := record }) ∨ Reaches s.toBlocks b := by
  cases event with
  | unchanged => exact .inr .refl
  | reset record => exact .inl ⟨record, rfl⟩
  | handled l kind payload evalB => exact .inr (reaches_handled images l kind payload evalB)
  | expired n evalB _ => exact .inr (reaches_expired s n evalB)
  | readback c level => exact .inr (Reaches.refl.readbackChanges c level)
  | storeCheck _ => exact .inr (Reaches.refl.enterLockout _)
  | later => exact .inr Reaches.refl.timersLater

end Sys2Proof.Machine
end

section
/-! # The exclusion law (03 R44)

`Exclusive` is ExclusionLaw of the blocks, strengthened by what its preservation needs. It rests on two facts: a member is
driven ON only while it is ON in the agreed image, as its fallback value is OFF; and the resolution of a round leaves
one member ON at most. -/

namespace Sys2Proof.Machine

/-- The inputs of the drives: members fall back to OFF, now and after the pending switch, and at most one member of a group
is ON in the agreed image. -/
structure ExclusiveInputs (b : Blocks) : Prop where
  members : MembersFallOff b.config
  pending_valid : ∀ p, b.pendingRecord = some p → validate p.image = none
  agreed : ∀ g, OneOn b.agreed (b.config.groups.row g)

/-- A member of a group that is driven ON is ON in the agreed image. -/
def DrivenAsAgreed (b : Blocks) : Prop :=
  ∀ g c, c ∈ b.config.groups.row g → (b.channelOutput c).drive.value = 1 → b.agreed c = 1

/-- The exclusion law of the blocks. -/
structure Exclusive (b : Blocks) : Prop where
  inputs : ExclusiveInputs b
  driven : DrivenAsAgreed b

/-! ## Drives -/

/-- By the table of 01 R8 a member is ON only when its agreed value is: its fallback value is OFF. -/
theorem agreed_of_driveOf_on {b : Blocks} (members : MembersFallOff b.config) {g : Fin 12} {c : Channel}
    (member : c ∈ b.config.groups.row g) (on : (b.driveOf c).value = 1) : b.agreed c = 1 := by
  obtain ⟨-, off⟩ := members g c member
  unfold Blocks.driveOf at on
  split at on
  · cases on
  · split at on
    · exact on
    · rw [Blocks.fallback, Blocks.entry, off] at on
      cases on

namespace ExclusiveInputs

variable {b d : Blocks}

theorem congr (h : ExclusiveInputs b) (active : d.active = b.active)
    (pending : ∀ p, d.pendingRecord = some p → b.pendingRecord = some p)
    (channels : d.vote.channels = b.vote.channels) : ExclusiveInputs d where
  members := by rw [Blocks.config_congr active]; exact h.members
  pending_valid p some_p := h.pending_valid p (pending p some_p)
  agreed := by
    rw [Blocks.config_congr active, show d.agreed = b.agreed from funext (Blocks.agreed_congr channels)]
    exact h.agreed

/-- The recomputation of every channel restores the law, whatever was driven before (01 R9). -/
theorem refreshOutputs (h : ExclusiveInputs b) : Exclusive b.refreshOutputs where
  inputs := h.congr rfl (fun _ => id) rfl
  driven _ c member on := by
    rw [Blocks.channelOutput_refreshOutputs, Blocks.refreshedOutput_drive] at on
    exact agreed_of_driveOf_on h.members member on

/-- A fallback image has no member ON (01 R6, 03 R43). -/
theorem of_fallbackImage (members : MembersFallOff b.config)
    (pending_valid : ∀ p, b.pendingRecord = some p → validate p.image = none)
    (fallback : ∀ c, b.agreed c = b.fallback c) : ExclusiveInputs b where
  members := members
  pending_valid := pending_valid
  agreed g c member _ _ on := by
    obtain ⟨-, off⟩ := members g c member
    rw [fallback, Blocks.fallback, Blocks.entry, off] at on
    cases on

end ExclusiveInputs

namespace Exclusive

variable {b d : Blocks}

theorem keeping (h : Exclusive b) (kept : KeepsImages b d) : Exclusive d := by
  obtain ⟨active, pending, channels, drives⟩ := kept
  refine ⟨h.inputs.congr active pending channels, fun g c => ?_⟩
  rw [Blocks.config_congr active, drives, Blocks.agreed_congr channels]
  exact h.driven g c

theorem refreshChannel (h : Exclusive b) (c : Channel) : Exclusive (b.refreshChannel c) := by
  refine ⟨h.inputs.congr rfl (fun _ => id) rfl, fun g d member on => ?_⟩
  by_cases e : d = c
  · subst e
    rw [Blocks.channelOutput_refreshChannel_self, Blocks.refreshedOutput_drive] at on
    exact agreed_of_driveOf_on h.inputs.members member on
  · rw [Blocks.channelOutput_refreshChannel_of_ne b e] at on
    exact h.driven g d member on

end Exclusive

/-! ## The commit of a round -/

/-- A commit gives a DISCRETE channel its resolved value (02 R35). -/
theorem Blocks.committedRecord_agreed_of_discrete {b : Blocks} {c : Channel} (discrete : b.channelType c = .discrete) :
    (b.committedRecord b.evaluate c).agreed = resolvedValue b.config.groups b.agreed b.candidate c := by
  have evaluated : b.outcomeOf c ≠ .notEvaluated := by
    simp only [outcomeOf, discrete, judgeDiscrete]
    split
    · simp
    · split <;> simp
  unfold committedRecord
  rw [evaluate_channels]
  simp only [evaluateChannel]
  split
  · contradiction
  · rfl
  · rfl

/-- A commit leaves one member of a group ON at most, as the resolution does (03 R44, R46). -/
theorem ExclusiveInputs.committed {b : Blocks} (h : ExclusiveInputs b) : ExclusiveInputs b.committedInputs where
  members := h.members
  pending_valid := h.pending_valid
  agreed g c hc d hd on_c on_d := by
    have resolved : ∀ x ∈ b.config.groups.row g, b.committedInputs.agreed x = 1 →
        resolvedValue b.config.groups b.agreed b.candidate x = 1 := by
      intro x member on
      obtain ⟨discrete, -⟩ := h.members g x member
      rwa [Blocks.agreed, Blocks.committedInputs, Table.row_build,
        Blocks.committedRecord_agreed_of_discrete discrete] at on
    exact oneOn_resolvedValue h.agreed g c hc d hd (resolved c hc on_c) (resolved d hd on_d)

/-! ## Steps -/

/-- The law is kept along every chain of the steps of `Reaches`. -/
theorem Exclusive.reaches {a b : Blocks} (start : Exclusive a) (chain : Reaches a b) : Exclusive b := by
  induction chain with
  | refl => exact start
  | keeping _ kept ih => exact ih.keeping kept
  | refreshOutputs _ ih => exact ih.inputs.refreshOutputs
  | refreshChannel _ c ih => exact ih.refreshChannel c
  | pending _ p valid ih =>
    refine ⟨⟨ih.inputs.members, fun q set => ?_, ih.inputs.agreed⟩, ih.driven⟩
    cases set
    exact valid
  | committed _ ih => exact ih.inputs.committed.refreshOutputs
  | fallbackImage _ active pending agreed ih =>
    refine (ExclusiveInputs.of_fallbackImage ?_ (fun p set => ih.inputs.pending_valid p (pending p set))
      agreed).refreshOutputs
    rcases active with same | ⟨p, set, switched⟩
    · rw [Blocks.config_congr same]
      exact ih.inputs.members
    · rw [Blocks.config, switched]
      exact membersFallOff_of_validate (ih.inputs.pending_valid p set)

/-- The reset state has no groups (03 R42). -/
theorem exclusive_reset (record : Option LockoutRecord) : Exclusive { Blocks.reset with lockoutRecord := record } where
  inputs :=
    { members := membersFallOff_noneActive
      pending_valid := fun _ set => by cases set
      agreed := fun g c member => by simp [Blocks.config, Blocks.reset, ConfigRecord.noneActive] at member }
  driven g c member := by simp [Blocks.config, Blocks.reset, ConfigRecord.noneActive] at member

/-! ## The law as it is stated -/

/-- The groups of the active configuration, decoded from a valid image, fall back to OFF. -/
theorem membersFallOff_of_imagesValid {s : State} (images : ImagesValid s) : MembersFallOff s.config := by
  obtain ⟨-, -, -, -, decoded⟩ := images
  unfold Blocks.config
  split
  · rename_i a active
    obtain ⟨m, valid, record⟩ := decoded a active
    rw [record]
    exact membersFallOff_of_validate valid
  · exact membersFallOff_noneActive

theorem exclusive_of_exclusionLaw {s : State} (images : ImagesValid s) (drives : DriveLaw s) (h : ExclusionLaw s) :
    Exclusive s.toBlocks := by
  have members := membersFallOff_of_imagesValid images
  obtain ⟨-, -, pending_valid, -, -⟩ := images
  obtain ⟨channels, -, -⟩ := drives
  refine ⟨⟨members, pending_valid, fun g c hc d hd => (h g c d hc hd).1⟩, fun g c member on => ?_⟩
  obtain ⟨drive, -, -, -⟩ := channels c
  rw [drive] at on
  exact agreed_of_driveOf_on members member on

theorem exclusionLaw_of_exclusive {s : State} (h : Exclusive s.toBlocks) : ExclusionLaw s :=
  fun g c d hc hd => ⟨h.inputs.agreed g c hc d hd, fun on_c on_d =>
    h.inputs.agreed g c hc d hd (h.driven g c hc on_c) (h.driven g d hd on_d)⟩

/-- Settles O19: the strengthened law `Exclusive` holds at reset and is kept along the chain that any other event is. -/
theorem exclusionLawKept : Obligations.ExclusionLawKept := by
  intro s t images drives law next
  refine exclusionLaw_of_exclusive ?_
  rcases reset_or_reaches images (step_blocksEvent next) with ⟨record, reset⟩ | chain
  · rw [reset]
    exact exclusive_reset record
  · exact (exclusive_of_exclusionLaw images drives law).reaches chain

end Sys2Proof.Machine
end

section
/-! # What an event can do to the device state, the lane states and the fault states

An event of the blocks is a chain of the steps of `Evolves`: whatever they all keep, every event keeps. -/

namespace Sys2Proof.Machine

/-- The lane supports an open ballot (06 R94). -/
def Supports (b : Blocks) (l : Lane) : Prop := ∃ x ∈ b.ballots, x.supporters.has l = true

/-- The lane supports an open ballot or may come to: it is VOTING, or the part is not configured yet (06 R96). -/
def Backs (b : Blocks) (l : Lane) : Prop := Supports b l ∨ b.device = .unconfigured ∨ b.laneState l = .voting

/-- Device state, FAILN, configuration, lane states and fault states stand, and no lane comes to support a ballot that
may not. -/
structure KeepsStanding (b d : Blocks) : Prop where
  device : d.device = b.device
  failn : d.failn = b.failn
  active : d.active = b.active
  laneState : ∀ l, d.laneState l = b.laneState l
  fault : ∀ c, d.fault c = b.fault c
  backs : ∀ l, Supports d l → Backs b l

/-- The parts of the blocks that `KeepsStanding` speaks of are the same. -/
def SameStanding (d b : Blocks) : Prop :=
  d.device = b.device ∧ d.failn = b.failn ∧ d.active = b.active ∧ d.lanes = b.lanes ∧ d.output = b.output ∧
    d.ballots = b.ballots

/-- The transitions of the device state, LOCKOUT entry and the resets apart (05 R78). -/
inductive Transition (b : Blocks) : DeviceState → Prop
  /-- 05 R80, after the switch has discarded the ballots. -/
  | firstSwitch (unconfigured : b.device = .unconfigured) (discarded : b.ballots = []) : Transition b .gathering
  /-- 05 R81 -/
  | quorumReached (gathering : b.device = .gathering) (quorum : b.hasQuorum = true) : Transition b .running
  /-- 05 R82 -/
  | quorumLost (running : b.device = .running) : Transition b .safeHold
  /-- 05 R83, by a RESUME ballot that passes with the supporters given (06 R100). -/
  | resumed (safeHold : b.device = .safeHold) {supporters : LaneSet}
      (backed : ∀ l, supporters.has l = true → Backs b l) (passed : b.config.quorum ≤ supporters.size) :
      Transition b .running

/-- The blocks `b` come from `a` by the steps listed. The index says whether the VOTING count stands compared with the
quorum (05 R79): it is so before the event, and again after a comparison, until a lane leaves VOTING or a switch brings
another quorum. -/
inductive Evolves (a : Blocks) : Bool → Blocks → Prop
  | refl : Evolves a true a
  | keeping {compared : Bool} {b d : Blocks} (h : Evolves a compared b) (kept : KeepsStanding b d) :
      Evolves a compared d
  /-- A lane changes its state (04 R73); one that leaves VOTING leaves the count to be compared. -/
  | moveLane {compared : Bool} {b : Blocks} (h : Evolves a compared b) (l : Lane) (r : LaneRecord)
      (cause : MemberCause) (stays : compared = true → b.laneState l ≠ .voting) :
      Evolves a compared (b.moveLane l r cause true)
  | uncompared {b : Blocks} (h : Evolves a true b) : Evolves a false b
  /-- The comparison of 05 R79 finds that RUNNING may go on, or does not concern the device state. -/
  | compare {compared : Bool} {b : Blocks} (h : Evolves a compared b)
      (quorum : b.device = .running → b.hasQuorum = true) : Evolves a true b
  /-- A transition takes the comparison with it (05 R79). -/
  | transition {compared : Bool} {b : Blocks} (h : Evolves a compared b) {next : DeviceState}
      (legal : Transition b next) : Evolves a true { b with device := next }
  | enterLockout {compared : Bool} {b : Blocks} (h : Evolves a compared b) (cause : LockoutCause) :
      Evolves a true (b.enterLockout cause)
  /-- A switch brings another quorum (05 R84). -/
  | switchTo {compared : Bool} {b : Blocks} (h : Evolves a compared b) (p : PendingRecord) :
      Evolves a false (b.switchTo p)
  | failChannel {compared : Bool} {b : Blocks} (h : Evolves a compared b) (c : Channel) :
      Evolves a compared (b.failChannel c)
  | clearFault {compared : Bool} {b : Blocks} (h : Evolves a compared b) (c : Channel) :
      Evolves a compared (b.clearFault c)

/-! ## Supporters after a change of the ballot table -/

namespace Blocks

theorem fault_congr {b d : Blocks} (h : b.output = d.output) (c : Channel) : b.fault c = d.fault c := by
  unfold fault
  rw [channelOutput_congr h]

theorem ballots_removeSupporter (b : Blocks) (l : Lane) (concerned : Ballot → Bool) :
    (b.removeSupporter l concerned).ballots =
      (b.ballots.map fun x => if concerned x then { x with supporters := x.supporters.erase l } else x).filter
        (fun x => x.supporters != 0) := by
  simp [removeSupporter]

/-- A switch ends with an empty ballot table: it discards the ballots, and no lane record brings one (07 R124). -/
theorem ballots_moveLane_nil {b : Blocks} (h : b.ballots = []) (l : Lane) (r : LaneRecord) (cause : MemberCause)
    (recompute : Bool) : (b.moveLane l r cause recompute).ballots = [] := by
  simp only [moveLane, supporterStep]
  split
  · simp [ballots_removeSupporter, h]
  · simp [h]

theorem ballots_switchLane_nil {b : Blocks} (h : b.ballots = []) (l : Lane) : (b.switchLane l).ballots = [] := by
  unfold switchLane
  simp only
  split
  · exact h
  split
  · exact ballots_moveLane_nil h ..
  split
  · exact ballots_moveLane_nil h ..
  · exact h

theorem ballots_switchLanes_nil {b : Blocks} (h : b.ballots = []) : b.switchLanes.ballots = [] := by
  have moved : ((List.finRange 4).foldl switchLane b).ballots = [] :=
    List.foldlRecOn (motive := fun d : Blocks => d.ballots = []) _ _ h fun _ empty l _ => ballots_switchLane_nil empty l
  simpa only [switchLanes] using moved

@[simp] theorem ballots_switchTo (b : Blocks) (p : PendingRecord) : (b.switchTo p).ballots = [] := by
  rw [switchTo_eq]
  simp [ballots_switchLanes_nil]

theorem fault_vetoStep (b : Blocks) (l : Lane) (new : LaneState) (recompute : Bool) (c : Channel) :
    (b.vetoStep l new recompute).fault c = b.fault c := by
  unfold vetoStep
  split
  · split
    · exact fault_refreshOutputs (b.dropVetoes l) c
    · rfl
  · rfl

/-- A change of lane state touches no fault state (04 R73). -/
theorem fault_moveLane (b : Blocks) (l : Lane) (r : LaneRecord) (cause : MemberCause) (recompute : Bool)
    (c : Channel) : (b.moveLane l r cause recompute).fault c = b.fault c := by
  have output : (b.moveLane l r cause recompute).output = ((b.setLane l r).vetoStep l r.state recompute).output := by
    simp [moveLane]
  rw [fault_congr output, fault_vetoStep]
  rfl

theorem not_voting_of_ready {b : Blocks} {l : Lane} (ready : b.readyForAdmission l = true) :
    b.laneState l ≠ .voting := by
  intro voting
  simp [readyForAdmission, voting] at ready

end Blocks

theorem supports_of_removeSupporter {b : Blocks} {l m : Lane} {concerned : Ballot → Bool}
    (h : Supports (b.removeSupporter l concerned) m) : Supports b m := by
  obtain ⟨y, listed, supports⟩ := h
  rw [Blocks.ballots_removeSupporter, List.mem_filter, List.mem_map] at listed
  obtain ⟨⟨x, old, rfl⟩, -⟩ := listed
  refine ⟨x, old, ?_⟩
  split at supports
  · rw [IndexSet.has_erase, Bool.and_eq_true] at supports
    obtain ⟨member, -⟩ := supports
    exact member
  · exact supports

theorem not_supports_of_removeSupporter (b : Blocks) (l : Lane) :
    ¬ Supports (b.removeSupporter l fun _ => true) l := by
  rintro ⟨y, listed, supports⟩
  rw [Blocks.ballots_removeSupporter, List.mem_filter, List.mem_map] at listed
  obtain ⟨⟨x, -, rfl⟩, -⟩ := listed
  simp [IndexSet.has_erase] at supports

/-- A lane that changes its state supports no ballot after it when it was VOTING, and no other lane comes to support one
(04 R73 step 4). -/
theorem supports_of_moveLane {b : Blocks} {l m : Lane} {r : LaneRecord} {cause : MemberCause} {recompute : Bool}
    (h : Supports (b.moveLane l r cause recompute) m) : Supports b m ∧ (b.laneState l = .voting → m ≠ l) := by
  simp only [Blocks.moveLane] at h
  generalize before : (((b.setLane l r).vetoStep l r.state recompute).readerStep l (b.laneState l) r.state).post
    (.memberChange l (b.laneState l) r.state cause) = d at h
  have ballots : d.ballots = b.ballots := by simp [← before]
  have old : Supports d m → Supports b m := by simp [Supports, ballots]
  unfold Blocks.supporterStep at h
  split at h
  · refine ⟨old (supports_of_removeSupporter h), ?_⟩
    rintro - rfl
    exact not_supports_of_removeSupporter d m h
  · rename_i stays
    exact ⟨old h, fun voting => absurd (by simp [voting]) stays⟩

/-! ## Steps that leave what the chain speaks of -/

theorem SameStanding.keeps {b d : Blocks} (h : SameStanding d b) : KeepsStanding b d := by
  obtain ⟨device, failn, active, lanes, output, ballots⟩ := h
  exact ⟨device, failn, active, Blocks.laneState_congr lanes, Blocks.fault_congr output,
    fun l supports => .inl (by simpa only [Supports, ballots] using supports)⟩

/-- The recomputation of every channel (01 R9). -/
theorem keepsStanding_refreshOutputs (b : Blocks) : KeepsStanding b b.refreshOutputs :=
  ⟨rfl, rfl, rfl, fun _ => rfl, Blocks.fault_refreshOutputs b, fun _ => .inl⟩

theorem keepsStanding_setLane {b : Blocks} {l : Lane} {r : LaneRecord} (state : r.state = b.laneState l) :
    KeepsStanding b (b.setLane l r) := by
  refine ⟨rfl, rfl, rfl, fun m => ?_, fun _ => rfl, fun _ => .inl⟩
  rw [Blocks.laneState_setLane]
  split
  · rename_i same
    rw [state, same]
  · rfl

theorem keepsStanding_removeSupporter (b : Blocks) (l : Lane) (concerned : Ballot → Bool) :
    KeepsStanding b (b.removeSupporter l concerned) := by
  exact ⟨by simp, by simp, by simp, Blocks.laneState_congr (by simp), Blocks.fault_congr (by simp),
    fun _ supports => .inl (supports_of_removeSupporter supports)⟩

theorem keepsStanding_removeBallot (b : Blocks) (slot : BallotSlot) : KeepsStanding b (b.removeBallot slot) := by
  refine ⟨rfl, rfl, rfl, fun _ => rfl, fun _ => rfl, ?_⟩
  rintro l ⟨x, listed, supports⟩
  obtain ⟨old, -⟩ := List.mem_filter.mp listed
  exact .inl ⟨x, old, supports⟩

/-- An output written with the fault state it had. -/
theorem keepsStanding_setChannelOutput {b : Blocks} {c : Channel} {o : ChannelOutput} (fault : o.fault = b.fault c) :
    KeepsStanding b (b.setChannelOutput c o) := by
  refine ⟨rfl, rfl, rfl, fun _ => rfl, fun d => ?_, fun _ => .inl⟩
  by_cases same : d = c
  · rw [same, Blocks.fault, Blocks.channelOutput_setChannelOutput_self, fault]
  · rw [Blocks.fault, Blocks.channelOutput_setChannelOutput_of_ne b same]
    rfl

theorem keepsStanding_timersLater (b : Blocks) : KeepsStanding b b.timersLater := by
  refine ⟨rfl, rfl, rfl, fun l => ?_, fun c => ?_, ?_⟩
  · simp only [Blocks.laneState, Blocks.timersLater]
    split
    · rw [Table.row_mapRows]
    · rfl
  · simp [Blocks.fault, Blocks.channelOutput, Blocks.timersLater]
  · rintro l ⟨y, listed, supports⟩
    obtain ⟨x, old, rfl⟩ := List.mem_map.mp listed
    exact .inl ⟨x, old, supports⟩

/-- A commit writes the vote engine and the drives (02 R27). -/
theorem keepsStanding_commitRound (b : Blocks) (e : Evaluation) : KeepsStanding b (b.commitRound e) := by
  refine ⟨by simp [Blocks.commitRound], by simp [Blocks.commitRound], by simp [Blocks.commitRound],
    Blocks.laneState_congr (by simp [Blocks.commitRound]), fun c => ?_,
    fun l supports => .inl (by simpa [Supports, Blocks.commitRound] using supports)⟩
  simp [Blocks.fault, Blocks.channelOutput, Blocks.commitRound]

/-- The lane that creates a ballot is its one supporter (06 R98). -/
theorem keepsStanding_createBallot {b : Blocks} {l : Lane} (may : Backs b l) (staging : Staging)
    (action : BallotAction) (slot : BallotSlot) : KeepsStanding b (b.createBallot staging l action slot) := by
  refine ⟨rfl, rfl, rfl, fun _ => rfl, fun _ => rfl, ?_⟩
  rintro m ⟨x, listed, supports⟩
  rcases List.mem_append.mp listed with old | new
  · exact .inl ⟨x, old, supports⟩
  · cases List.mem_singleton.mp new
    have same : l = m := by simpa [IndexSet.has_insert] using supports
    exact same ▸ may

/-- A ballot gets supporters that may back it (06 R98). -/
theorem keepsStanding_setSupporters {b : Blocks} {supporters : LaneSet}
    (backed : ∀ l, supporters.has l = true → Backs b l) (slot : BallotSlot) :
    KeepsStanding b (b.setSupporters slot supporters) := by
  refine ⟨rfl, rfl, rfl, fun _ => rfl, fun _ => rfl, ?_⟩
  rintro l ⟨y, listed, supports⟩
  obtain ⟨x, old, rfl⟩ := List.mem_map.mp listed
  split at supports
  · exact backed l supports
  · exact .inl ⟨x, old, supports⟩

end Sys2Proof.Machine
end

section
/-! # The events of the blocks as chains of these steps -/

namespace Sys2Proof.Machine

namespace Evolves

variable {a b : Blocks} {compared : Bool}

theorem same (h : Evolves a compared b) {d : Blocks} (same : SameStanding d b) : Evolves a compared d :=
  h.keeping same.keeps

theorem refreshOutputs (h : Evolves a compared b) : Evolves a compared b.refreshOutputs :=
  h.keeping (keepsStanding_refreshOutputs b)

theorem setLane (h : Evolves a compared b) {l : Lane} {r : LaneRecord} (state : r.state = b.laneState l) :
    Evolves a compared (b.setLane l r) :=
  h.keeping (keepsStanding_setLane state)

theorem to_uncompared (h : Evolves a compared b) : Evolves a false b := by
  cases compared
  · exact h
  · exact h.uncompared

/-- Outside RUNNING there is nothing to compare the count for (05 R79). -/
theorem compare_idle (h : Evolves a compared b) (idle : b.device ≠ .running) : Evolves a true b :=
  h.compare fun running => absurd running idle

/-! ## The output stage -/

theorem setChannelOutput (h : Evolves a compared b) {c : Channel} {o : ChannelOutput} (fault : o.fault = b.fault c) :
    Evolves a compared (b.setChannelOutput c o) :=
  h.keeping (keepsStanding_setChannelOutput fault)

theorem settleExpires (h : Evolves a compared b) (c : Channel) : Evolves a compared (b.settleExpires c) := by
  unfold Blocks.settleExpires
  simp only
  split
  · exact (h.setChannelOutput (o := { b.channelOutput c with settle := none }) rfl).failChannel c
  · exact h.setChannelOutput rfl

theorem mismatchExpires (h : Evolves a compared b) (c : Channel) : Evolves a compared (b.mismatchExpires c) :=
  (h.setChannelOutput (o := { b.channelOutput c with mismatch := none }) rfl).failChannel c

theorem readbackChanges (h : Evolves a compared b) (c : Channel) (level : ReadbackLevel) :
    Evolves a compared (b.readbackChanges c level) :=
  h.setChannelOutput rfl

theorem acceptVeto (h : Evolves a compared b) (l : Lane) (entries : List (Channel × Bool)) :
    Evolves a compared (b.acceptVeto l entries) := by
  have written : KeepsStanding b { b with output := { b.output with
      vetoes := b.output.vetoes.put l (Blocks.applyVetoes (b.output.vetoes.row l) entries) } } :=
    ⟨rfl, rfl, rfl, fun _ => rfl, fun _ => rfl, fun _ => .inl⟩
  exact (h.keeping written).refreshOutputs

/-! ## Lanes (04 R65 to R74) -/

theorem admitLane (h : Evolves a compared b) (l : Lane) : Evolves a compared (b.admitLane l) := by
  unfold Blocks.admitLane
  split
  · rename_i ready
    exact h.moveLane l _ _ fun _ => Blocks.not_voting_of_ready ready
  · exact h

theorem admitReady (h : Evolves a compared b) : Evolves a compared b.admitReady :=
  List.foldlRecOn _ _ h fun _ moved l _ => moved.admitLane l

/-- Strikes leave the lane states; exclusions may take a lane out of VOTING. -/
theorem applyReport (h : Evolves a compared b) (report : List (Lane × Bool)) :
    Evolves a false (b.applyReport report) := by
  have struck : Evolves a false (report.foldl Blocks.applyStrike b) :=
    List.foldlRecOn _ _ h.to_uncompared fun _ chain _ _ => chain.setLane rfl
  have excluded : Evolves a false ((report.map Prod.fst).foldl Blocks.excludeAtThreshold
      (report.foldl Blocks.applyStrike b)) := by
    refine List.foldlRecOn _ _ struck fun d chain l _ => ?_
    unfold Blocks.excludeAtThreshold
    split
    · exact chain.moveLane l _ _ (by simp)
    · exact chain
  exact excluded.admitReady

/-! ## The device state (05 R78 to R84) -/

theorem enterRunning (h : Evolves a compared b) (gathering : b.device = .gathering) (quorum : b.hasQuorum = true) :
    Evolves a true b.enterRunning := by
  have running := h.transition (.quorumReached gathering quorum)
  refine running.keeping ⟨by simp, by simp, by simp, fun l => ?_, fun c => ?_,
    fun l supports => .inl (by simpa [Supports] using supports)⟩
  · simp only [Blocks.laneState, Blocks.enterRunning, Blocks.restartVotingLeases, Blocks.postState_kept,
      Blocks.refreshOutputs_kept, Blocks.openNextRound_kept, Table.row_mapRows]
    split <;> rfl
  · exact Blocks.fault_refreshOutputs
      ({ b with device := .running } : Blocks).restartVotingLeases.openNextRound c

theorem safeHoldSteps (h : Evolves a compared b) (running : b.device = .running) :
    Evolves a true b.safeHoldSteps := by
  have hold := h.transition (.quorumLost running)
  have inputs : Evolves a true b.safeHoldInputs := hold.same (by simp [SameStanding, Blocks.safeHoldInputs])
  have posted : Evolves a true (b.safeHoldInputs.refreshOutputs.postState .running .safeHold .quorumLost) :=
    inputs.refreshOutputs.same ⟨rfl, rfl, rfl, rfl, rfl, rfl⟩
  rw [Blocks.safeHoldSteps_eq]
  exact posted.admitReady

theorem carryOutPending (h : Evolves a compared b) (idle : b.device ≠ .running) :
    Evolves a true b.carryOutPending := by
  unfold Blocks.carryOutPending
  split
  · exact (h.switchTo _).compare_idle (by simpa using idle)
  · exact h.compare_idle idle

theorem reportCount (h : Evolves a compared b) : Evolves a true b.reportCount := by
  unfold Blocks.reportCount
  split
  · rename_i gathering
    split
    · rename_i quorum
      exact h.enterRunning gathering quorum
    · exact h.compare_idle (by simp [gathering])
  · rename_i running
    split
    · rename_i quorum
      exact h.compare fun _ => quorum
    · exact (h.safeHoldSteps running).carryOutPending (by simp)
  all_goals
    rename_i idle
    exact h.compare_idle (by simp [idle])

theorem switchAtClose (h : Evolves a true b) : Evolves a true b.switchAtClose := by
  unfold Blocks.switchAtClose
  split
  · rename_i p running _
    split
    · rename_i quorum
      exact (h.switchTo p).compare fun _ => quorum
    · exact (h.switchTo p).safeHoldSteps (by simpa using running)
  · exact h

/-! ## The round (02 R19 to R27) -/

theorem closeRound (h : Evolves a compared b) (evalB : Option Evaluation) : Evolves a true (b.closeRound evalB) := by
  unfold Blocks.closeRound
  split
  · exact ((h.keeping (keepsStanding_commitRound b _)).applyReport _).reportCount.switchAtClose
  · exact h.enterLockout _

theorem closeIfComplete (h : Evolves a true b) (evalB : Option Evaluation) :
    Evolves a true (b.closeIfComplete evalB) := by
  unfold Blocks.closeIfComplete
  split
  · exact h.closeRound evalB
  · exact h

/-- Seven refusals leave the blocks before the entries are looked at (02 R19). -/
theorem propose (h : Evolves a true b) (l : Lane) (round : BitVec 16) (entries : List (Nat × Nat))
    (evalB : Option Evaluation) : Evolves a true (b.propose l round entries evalB).1 := by
  unfold Blocks.propose
  iterate 7
    split
    · exact h
  split
  · exact h
  · exact (h.same (by simp [SameStanding])).closeIfComplete evalB

/-! ## Lane events outside a close (04) -/

/-- A lane that leaves VOTING has the count reported (04 R73 step 6); no other lane's leaving lowers it (R74). -/
theorem laneEvent (h : Evolves a true b) (l : Lane) (r : LaneRecord) (cause : MemberCause)
    (evalB : Option Evaluation) : Evolves a true (b.laneEvent l r cause evalB) := by
  unfold Blocks.laneEvent
  simp only
  split
  · have moved := h.to_uncompared.moveLane l r cause (by simp)
    unfold Blocks.retest
    split
    · exact (moved.closeRound evalB).reportCount
    · exact moved.reportCount
  · rename_i stays
    exact h.moveLane l r cause fun _ => stays

theorem admitOutsideRunning (h : Evolves a true b) (l : Lane) : Evolves a true (b.admitOutsideRunning l) := by
  unfold Blocks.admitOutsideRunning
  split
  · exact (h.admitLane l).reportCount
  · exact (h.admitLane l).reportCount
  all_goals exact h

theorem join (h : Evolves a true b) (l : Lane) (digest : Digest) : Evolves a true (b.join l digest).1 := by
  unfold Blocks.join
  split
  · exact h
  · rename_i absent
    exact h.moveLane l _ _ fun _ => by simp [absent]
  · rename_i absent _ _
    split
    · exact h
    split
    · exact h
    · exact (h.moveLane l _ _ fun _ => by simp [absent]).admitOutsideRunning l
  iterate 4 exact h
  · exact h.setLane rfl

theorem leave (h : Evolves a true b) (l : Lane) (evalB : Option Evaluation) :
    Evolves a true (b.leave l evalB).1 := by
  unfold Blocks.leave
  split
  iterate 3 exact h
  all_goals exact h.laneEvent ..

theorem takeReturn (h : Evolves a true b) (l : Lane) : Evolves a true (b.takeReturn l) := by
  refine admitOutsideRunning ?_ l
  exact h.setLane rfl

theorem renew (h : Evolves a true b) (l : Lane) : Evolves a true (b.renew l) := by
  unfold Blocks.renew
  split
  iterate 4 exact h
  · exact h.setLane rfl
  · exact h.setLane rfl
  · split
    · exact h.setLane rfl
    · exact h.takeReturn l

theorem readmit (h : Evolves a true b) {l : Lane} (excluded : b.laneState l = .excluded) :
    Evolves a true (b.readmit l) :=
  (h.moveLane l _ _ fun _ => by simp [excluded]).admitOutsideRunning l

theorem leaseExpires (h : Evolves a true b) (l : Lane) (evalB : Option Evaluation) :
    Evolves a true (b.leaseExpires l evalB) := by
  unfold Blocks.leaseExpires
  simp only
  split
  · exact h.laneEvent ..
  · exact h.laneEvent ..
  · split
    · exact h.setLane rfl
    · exact h
  all_goals exact h

theorem graceExpires (h : Evolves a true b) (l : Lane) : Evolves a true (b.graceExpires l) := by
  unfold Blocks.graceExpires
  simp only
  split
  · exact h.laneEvent ..
  · exact h

/-! ## Ballots (06 R96 to R105) -/

theorem removeSupporter (h : Evolves a compared b) (l : Lane) (concerned : Ballot → Bool) :
    Evolves a compared (b.removeSupporter l concerned) :=
  h.keeping (keepsStanding_removeSupporter b l concerned)

/-- A ballot leaves the table and a notice of it is posted. -/
theorem removeBallot_post (h : Evolves a compared b) (slot : BallotSlot) (body : NoticeBody) :
    Evolves a compared ((b.removeBallot slot).post body) :=
  (h.keeping (keepsStanding_removeBallot b slot)).same ⟨rfl, rfl, rfl, rfl, rfl, rfl⟩

/-- GATHERING, entered with an empty ballot table, and the admissions in it (05 R80). -/
theorem enterGathering (h : Evolves a compared b) (unconfigured : b.device = .unconfigured)
    (discarded : b.ballots = []) :
    Evolves a true (({ b with device := .gathering } : Blocks).postState .unconfigured .gathering
      .firstSwitch).admitReady.reportCount := by
  have gathering := h.transition (.firstSwitch unconfigured discarded)
  have posted : Evolves a true (({ b with device := .gathering } : Blocks).postState .unconfigured .gathering
      .firstSwitch) := gathering.same ⟨rfl, rfl, rfl, rfl, rfl, rfl⟩
  exact posted.admitReady.reportCount

/-- The first switch discards the ballots before the device goes GATHERING (05 R80). -/
theorem firstSwitch (h : Evolves a compared b) (unconfigured : b.device = .unconfigured) {p : PendingRecord}
    (pending : b.pendingRecord = some p) : Evolves a true b.firstSwitch := by
  have carried : b.carryOutPending = b.switchTo p := by simp only [Blocks.carryOutPending, pending]
  unfold Blocks.firstSwitch
  rw [carried]
  exact (h.switchTo p).enterGathering (by simpa using unconfigured) (by simp)

theorem commitConfig (h : Evolves a true b) (image : Memory) (d : Digest) :
    Evolves a true (b.commitConfig image d) := by
  have pending : Evolves a true { b with pendingRecord := some ⟨image, d⟩ } :=
    h.same ⟨rfl, rfl, rfl, rfl, rfl, rfl⟩
  unfold Blocks.commitConfig
  simp only
  split
  · rename_i unconfigured
    exact pending.firstSwitch unconfigured rfl
  · rename_i safeHold
    exact pending.carryOutPending (by simp [safeHold])
  all_goals exact pending

/-- RUNNING by a RESUME ballot that has left the table (05 R83, 06 R102). -/
theorem resume (h : Evolves a compared b) (slot : BallotSlot) (body : NoticeBody) (safeHold : b.device = .safeHold)
    {supporters : LaneSet} (backed : ∀ l, supporters.has l = true → Backs b l)
    (passed : b.config.quorum ≤ supporters.size) : Evolves a true ((b.removeBallot slot).post body).resume := by
  have running := h.transition (.resumed safeHold backed passed)
  refine running.keeping ⟨by simp, by simp, by simp, Blocks.laneState_congr (by simp), fun c => ?_, ?_⟩
  · exact Blocks.fault_refreshOutputs
      ({ (b.removeBallot slot).post body with device := .running } : Blocks).openNextRound c
  · rintro l ⟨x, listed, supports⟩
    simp only [Blocks.resume_kept, Blocks.post_kept] at listed
    obtain ⟨old, -⟩ := List.mem_filter.mp listed
    exact .inl ⟨x, old, supports⟩

end Evolves

/-! ## The pass of a ballot -/

namespace Blocks

variable {b : Blocks} {staging : Staging} {l : Lane}

theorem excluded_of_applicable {r : Lane} (h : b.inapplicable staging l (.readmit r) = none) :
    b.laneState r = .excluded := by
  simpa [inapplicable] using h

theorem safeHold_of_applicable (h : b.inapplicable staging l .resume = none) : b.device = .safeHold := by
  simpa [inapplicable] using h

theorem backs_of_maySupport (h : b.maySupport l = true) : Backs b l := by
  unfold maySupport at h
  split at h
  · rename_i unconfigured
    exact .inr (.inl unconfigured)
  · exact .inr (.inr (by simpa using h))

/-- A ballot never needs fewer supporters than the quorum in force (06 R100). -/
theorem quorum_le_quorumNeeded (b : Blocks) (staging : Staging) (supporters : LaneSet) :
    b.config.quorum ≤ b.quorumNeeded staging supporters := by
  unfold config quorumNeeded
  cases b.active with
  | some a => exact Nat.le_refl _
  | none => exact Nat.zero_le _

end Blocks

namespace Evolves

variable {a b : Blocks} {staging : Staging} {l : Lane}

theorem pass (h : Evolves a true b) {x : Ballot} {supporters : LaneSet}
    (applicable : b.inapplicable staging l x.action = none) (backed : ∀ m, supporters.has m = true → Backs b m)
    (passed : b.config.quorum ≤ supporters.size) : Evolves a true (b.pass staging x supporters) := by
  have removed := h.removeBallot_post x.slot (.ballotPassed x.slot x.action supporters)
  unfold Blocks.pass
  generalize x.action = action at applicable removed ⊢
  cases action with
  | clearFault c => exact removed.clearFault c
  | readmit r =>
    have excluded : b.laneState r = .excluded := Blocks.excluded_of_applicable applicable
    exact removed.readmit excluded
  | resume => exact h.resume _ _ (Blocks.safeHold_of_applicable applicable) backed passed
  | commitConfig d =>
    simp only [Blocks.carryOut]
    split
    · exact removed.commitConfig ..
    · exact removed

theorem addSupport (h : Evolves a true b) {x : Ballot} (listed : x ∈ b.ballots) (may : b.maySupport l = true)
    (applicable : b.inapplicable staging l x.action = none) : Evolves a true (b.addSupport staging l x).1 := by
  have backed : ∀ m, (x.supporters.insert l).has m = true → Backs b m := by
    intro m supports
    rw [IndexSet.has_insert, Bool.or_eq_true, decide_eq_true_eq] at supports
    rcases supports with old | rfl
    · exact .inl ⟨x, listed, old⟩
    · exact Blocks.backs_of_maySupport may
  unfold Blocks.addSupport
  simp only
  split
  · rename_i enough
    exact h.pass applicable backed (Nat.le_trans (b.quorum_le_quorumNeeded staging _) enough)
  · exact h.keeping (keepsStanding_setSupporters backed x.slot)

theorem support (h : Evolves a true b) (action : BallotAction) : Evolves a true (b.support staging l action).1 := by
  unfold Blocks.support
  split
  · exact h
  split
  · exact h
  rename_i may
  have may : b.maySupport l = true := by simpa using may
  split
  · exact h
  rename_i applicable
  unfold Blocks.supportTable
  split
  · rename_i x found
    split
    · exact h
    · have same : x.action = action := by simpa using List.find?_some found
      exact h.addSupport (List.mem_of_find?_eq_some found) may (same ▸ applicable)
  · exact h.keeping (keepsStanding_createBallot (Blocks.backs_of_maySupport may) ..)
  · exact h

end Evolves

/-! ## Events -/

/-- What a request can do. -/
theorem evolves_handled (b : Blocks) (staging : Staging) (l : Lane) (kind : Byte) (payload : List Byte)
    (evalB : Option Evaluation) : Evolves b true (handlerOf l kind payload evalB b staging).blocks := by
  have h : Evolves b true b := .refl
  generalize taken : handlerOf l kind payload evalB = handle
  unfold handlerOf at taken
  split at taken <;> subst taken
  · unfold handleJoin
    split
    · exact h.renew l
    · exact (h.join ..).renew l
  · unfold handleLeave
    split
    · exact h
    · exact h.leave ..
  · unfold handleKeepalive
    split
    · exact h.renew l
    · exact h.renew l
  · unfold handlePropose
    split
    · exact h.renew l
    · exact (h.propose ..).renew l
  · unfold handleVeto
    split
    · exact h
    iterate 4
      split
      · exact h
    exact h.acceptVeto ..
  · unfold handleSupport
    split
    · exact h
    · rw [blocks_served]
      exact h.support _
  · rwa [blocks_handleStageWrite]
  · rwa [blocks_handleStageSeal]
  · unfold handleStageOpen
    split
    · exact h
    split
    · exact h
    split
    · exact h
    · exact h
    · rw [blocks_unchanged]
      split
      · exact h.removeSupporter ..
      · exact h
  · rwa [blocks_handleReadStaging]
  · unfold handleFetchNotices
    split
    · exact h
    split
    · exact h
    · exact h.same ⟨rfl, rfl, rfl, rfl, rfl, rfl⟩
  · rwa [blocks_handleReadStatus]
  · rwa [blocks_handleReadChannels]
  · rwa [blocks_handleReadBallots]
  · rwa [blocks_handleUnknown]

/-- What an expiry can do. -/
theorem evolves_expired (s : State) (n : TimerName) (evalB : Option Evaluation) :
    Evolves s.toBlocks true (s.expire evalB n).toBlocks := by
  have h : Evolves s.toBlocks true s.toBlocks := .refl
  cases n with
  | deadline => exact h.closeRound evalB
  | lease l => exact h.leaseExpires l evalB
  | grace l => exact h.graceExpires l
  | lifetime slot =>
    simp only [State.expire]
    split
    · exact h.removeBallot_post ..
    · exact h
  | sealing l => exact h
  | settle c => exact h.settleExpires c
  | mismatch c => exact h.mismatchExpires c

/-- Every event of the blocks but a reset is a chain of the steps of `Evolves` that ends with the count compared. -/
theorem reset_or_evolves {s : State} {b : Blocks} (event : BlocksEvent s b) :
    (∃ record, b = { Blocks.reset with lockoutRecord := record }) ∨ Evolves s.toBlocks true b := by
  cases event with
  | unchanged => exact .inr .refl
  | reset record => exact .inl ⟨record, rfl⟩
  | handled l kind payload evalB => exact .inr (evolves_handled s.toBlocks s.staging l kind payload evalB)
  | expired n evalB _ => exact .inr (evolves_expired s n evalB)
  | readback c level => exact .inr (Evolves.refl.readbackChanges c level)
  | storeCheck _ => exact .inr (Evolves.refl.enterLockout _)
  | later => exact .inr (Evolves.refl.keeping (keepsStanding_timersLater _))

end Sys2Proof.Machine
end

section
/-! # The FAILN law (05 R90)

FAILN is re-evaluated by each step that may bring or take away an UNSAFE channel or LOCKOUT; every other step leaves
both conditions. -/

namespace Sys2Proof.Machine

/-- FAILN is asserted exactly in LOCKOUT or while a channel is UNSAFE. -/
def FailnRight (b : Blocks) : Prop := b.failn = true ↔ (b.device = .lockout ∨ ∃ c, b.fault c = .unsafeState)

theorem Blocks.failnCondition_iff (b : Blocks) :
    b.failnCondition = true ↔ (b.device = .lockout ∨ ∃ c, b.fault c = .unsafeState) := by
  simp [Blocks.failnCondition]

theorem failnRight_of_reevaluated {b : Blocks} (h : b.failn = b.failnCondition) : FailnRight b := by
  unfold FailnRight
  rw [h, b.failnCondition_iff]

theorem failnRight_updateFailn (b : Blocks) : FailnRight b.updateFailn := failnRight_of_reevaluated rfl

namespace FailnRight

variable {b d : Blocks}

theorem congr (h : FailnRight b) (failn : d.failn = b.failn) (lockout : d.device = .lockout ↔ b.device = .lockout)
    (fault : ∀ c, d.fault c = .unsafeState ↔ b.fault c = .unsafeState) : FailnRight d := by
  unfold FailnRight
  simp only [failn, lockout, fault]
  exact h

/-- A channel that goes FAULTED was not UNSAFE and is not; one that goes UNSAFE has FAILN re-evaluated (08 R139). -/
theorem failChannel (h : FailnRight b) (c : Channel) : FailnRight (b.failChannel c) := by
  cases before : (b.channelOutput c).fault with
  | none =>
    rw [Blocks.failChannel_of_none before]
    refine h.congr (by simp) (by simp) fun e => ?_
    by_cases same : e = c
    · subst same
      simp [Blocks.fault, before]
    · simp [Blocks.fault, same]
  | faulted =>
    rw [Blocks.failChannel_of_faulted before]
    exact failnRight_updateFailn _
  | unsafeState =>
    rw [Blocks.failChannel_of_unsafeState before]
    exact h

/-- No transition but LOCKOUT entry leads into or out of LOCKOUT (05 R78). -/
theorem transition (h : FailnRight b) {next : DeviceState} (legal : Transition b next) :
    FailnRight { b with device := next } := by
  refine h.congr rfl ?_ fun _ => Iff.rfl
  cases legal with
  | firstSwitch unconfigured _ => simp [unconfigured]
  | quorumReached gathering _ => simp [gathering]
  | quorumLost running => simp [running]
  | resumed safeHold _ _ => simp [safeHold]

theorem evolves {a : Blocks} {compared : Bool} (start : FailnRight a) (chain : Evolves a compared b) :
    FailnRight b := by
  induction chain with
  | refl => exact start
  | keeping _ kept ih => exact ih.congr kept.failn (by rw [kept.device]) fun c => by rw [kept.fault]
  | moveLane _ l r cause _ ih =>
    exact ih.congr (by simp) (by simp) fun c => by rw [Blocks.fault_moveLane]
  | uncompared _ ih => exact ih
  | compare _ _ ih => exact ih
  | transition _ legal ih => exact ih.transition legal
  | enterLockout _ cause _ => exact failnRight_updateFailn _
  | switchTo _ p _ => exact failnRight_of_reevaluated (Blocks.switchTo_failn _ p)
  | failChannel _ c ih => exact ih.failChannel c
  | clearFault _ c _ => exact failnRight_updateFailn _

end FailnRight

/-- FAILN is clear after a reset: UNCONFIGURED, and every fault state NONE (05 R92, 08 R146). -/
theorem failnRight_reset (record : Option LockoutRecord) :
    FailnRight { Blocks.reset with lockoutRecord := record } := by
  simp [FailnRight, Blocks.fault, Blocks.channelOutput, Blocks.reset, OutputStage.reset, ChannelOutput.reset]

/-- Settles O8: FAILN is right after a reset and along the chain that any other event is. -/
theorem failnLawKept : Obligations.FailnLawKept := by
  intro s t law next
  rcases reset_or_evolves (step_blocksEvent next) with ⟨record, reset⟩ | chain
  · have right := failnRight_reset record
    rw [← reset] at right
    exact right
  · exact FailnRight.evolves (a := s.toBlocks) law chain

end Sys2Proof.Machine
end

section
/-! # The quorum law (05 R79, 06 R94)

Every supporter of an open ballot is VOTING once the part is configured. So a RESUME ballot that passes is backed by a
quorum of VOTING lanes, and every other way into RUNNING, or of the count or Q within it, ends with a comparison. -/

namespace Sys2Proof

/-- A set has no more members than a set that contains it. -/
theorem IndexSet.size_le_of_subset {n : Nat} {s t : IndexSet n} (h : ∀ i, s.has i = true → t.has i = true) :
    s.size ≤ t.size := by
  simp only [size, members, ← List.countP_eq_length_filter]
  exact List.countP_mono_left fun i _ => h i

namespace Machine

/-- Once configured, only VOTING lanes support ballots (06 R94). -/
def SupportersVote (b : Blocks) : Prop := ∀ l, Supports b l → b.device ≠ .unconfigured → b.laneState l = .voting

/-- While RUNNING the VOTING count is at least Q (05 R79). -/
def Quorate (b : Blocks) : Prop := b.device = .running → b.config.quorum ≤ b.votingCount

/-- Lanes that all are VOTING are no more than the VOTING count. -/
theorem Blocks.size_le_votingCount {b : Blocks} {lanes : LaneSet}
    (voting : ∀ l, lanes.has l = true → b.laneState l = .voting) : lanes.size ≤ b.votingCount :=
  IndexSet.size_le_of_subset fun l member => by simp [Blocks.votingLanes, voting l member]

theorem Blocks.votingCount_mono {b d : Blocks} (voting : ∀ l, b.laneState l = .voting → d.laneState l = .voting) :
    b.votingCount ≤ d.votingCount :=
  d.size_le_votingCount fun l member => voting l (by simpa [Blocks.votingLanes] using member)

theorem Blocks.hasQuorum_iff (b : Blocks) : b.hasQuorum = true ↔ b.config.quorum ≤ b.votingCount := by
  simp [Blocks.hasQuorum]

namespace SupportersVote

variable {b d : Blocks}

theorem of_no_ballots (h : b.ballots = []) : SupportersVote b := by
  rintro l ⟨x, listed, -⟩
  simp [h] at listed

theorem backs (h : SupportersVote b) {l : Lane} (backed : Backs b l) (configured : b.device ≠ .unconfigured) :
    b.laneState l = .voting := by
  rcases backed with supports | unconfigured | voting
  · exact h l supports configured
  · exact absurd unconfigured configured
  · exact voting

theorem keeping (h : SupportersVote b) (kept : KeepsStanding b d) : SupportersVote d := by
  intro l supports configured
  rw [kept.device] at configured
  rw [kept.laneState]
  exact h.backs (kept.backs l supports) configured

/-- The lane that moved supports nothing any more if it was VOTING, and supported nothing before if it was not. -/
theorem moveLane (h : SupportersVote b) (l : Lane) (r : LaneRecord) (cause : MemberCause) :
    SupportersVote (b.moveLane l r cause true) := by
  intro m supports configured
  obtain ⟨old, other⟩ := supports_of_moveLane supports
  have voting : b.laneState m = .voting := h m old (by simpa using configured)
  have moved : ¬ l = m := fun same => other (same ▸ voting) same.symm
  rw [Blocks.moveLane_laneState, if_neg moved]
  exact voting

/-- The first switch leaves an empty ballot table; every other transition is between configured states. -/
theorem transition (h : SupportersVote b) {next : DeviceState} (legal : Transition b next) :
    SupportersVote { b with device := next } := by
  have configured (h : SupportersVote b) (before : b.device ≠ .unconfigured) :
      SupportersVote { b with device := next } := fun l supports _ => h l supports before
  cases legal with
  | firstSwitch _ discarded => exact of_no_ballots discarded
  | quorumReached gathering _ => exact configured h (by simp [gathering])
  | quorumLost running => exact configured h (by simp [running])
  | resumed safeHold _ _ => exact configured h (by simp [safeHold])

theorem same (h : SupportersVote b) (device : d.device = b.device) (lanes : d.lanes = b.lanes)
    (ballots : d.ballots = b.ballots) : SupportersVote d := by
  simp only [SupportersVote, Supports, device, Blocks.laneState_congr lanes, ballots]
  exact h

theorem evolves {a : Blocks} {compared : Bool} (start : SupportersVote a) (chain : Evolves a compared b) :
    SupportersVote b := by
  induction chain with
  | refl => exact start
  | keeping _ kept ih => exact ih.keeping kept
  | moveLane _ l r cause _ ih => exact ih.moveLane l r cause
  | uncompared _ ih => exact ih
  | compare _ _ ih => exact ih
  | transition _ legal ih => exact ih.transition legal
  | enterLockout _ cause _ => exact of_no_ballots (by simp)
  | switchTo _ p _ => exact of_no_ballots (by simp)
  | failChannel _ c ih => exact ih.same (by simp) (by simp) (by simp)
  | clearFault _ c ih => exact ih.same (by simp) (by simp) (by simp)

end SupportersVote

namespace Quorate

variable {b d : Blocks}

theorem of_idle (h : b.device ≠ .running) : Quorate b := fun running => absurd running h

/-- The law stands while no lane leaves VOTING under the same configuration. -/
theorem of_votersKept (h : Quorate b) (device : d.device = b.device) (active : d.active = b.active)
    (voting : ∀ l, b.laneState l = .voting → d.laneState l = .voting) : Quorate d := by
  intro running
  rw [device] at running
  rw [Blocks.config_congr active]
  exact Nat.le_trans (h running) (Blocks.votingCount_mono voting)

theorem same (h : Quorate b) (device : d.device = b.device) (active : d.active = b.active)
    (lanes : d.lanes = b.lanes) : Quorate d :=
  h.of_votersKept device active fun l voting => by rw [Blocks.laneState_congr lanes, voting]

/-- A way into RUNNING takes a quorum of VOTING lanes: the count itself, or the supporters of a RESUME ballot. -/
theorem of_transition (supporters : SupportersVote b) {next : DeviceState} (legal : Transition b next) :
    Quorate { b with device := next } := by
  cases legal with
  | firstSwitch _ _ => exact of_idle (by simp)
  | quorumReached _ quorum => exact fun _ => b.hasQuorum_iff.mp quorum
  | quorumLost _ => exact of_idle (by simp)
  | resumed safeHold backed passed =>
    exact fun _ => Nat.le_trans passed (Blocks.size_le_votingCount fun l member =>
      supporters.backs (backed l member) (by simp [safeHold]))

theorem evolves {a : Blocks} (start : Quorate a) (supporters : SupportersVote a) {compared : Bool}
    (chain : Evolves a compared b) : compared = true → Quorate b := by
  induction chain with
  | refl => exact fun _ => start
  | keeping _ kept ih =>
    exact fun done => (ih done).of_votersKept kept.device kept.active fun l voting => by rw [kept.laneState, voting]
  | moveLane _ l r cause stays ih =>
    refine fun done => (ih done).of_votersKept (by simp) (by simp) fun m voting => ?_
    have moved : ¬ l = m := fun same => stays done (same ▸ voting)
    rw [Blocks.moveLane_laneState, if_neg moved, voting]
  | uncompared _ _ => simp
  | compare _ quorum _ => exact fun _ running => (Blocks.hasQuorum_iff _).mp (quorum running)
  | transition before legal _ => exact fun _ => of_transition (supporters.evolves before) legal
  | enterLockout _ cause _ => exact fun _ => of_idle (by simp)
  | switchTo _ p _ => simp
  | failChannel _ c ih => exact fun done => (ih done).same (by simp) (by simp) (by simp)
  | clearFault _ c ih => exact fun done => (ih done).same (by simp) (by simp) (by simp)

end Quorate

/-- The law as it is stated, in its two halves. -/
theorem quorumLaw_iff (s : State) : QuorumLaw s ↔ Quorate s.toBlocks ∧ SupportersVote s.toBlocks := by
  refine and_congr Iff.rfl ⟨?_, fun law x listed l supports => law l ⟨x, listed, supports⟩⟩
  rintro law l ⟨x, listed, supports⟩
  exact law x listed l supports

/-- Settles O14: a reset leaves RUNNING and the ballot table empty; any other event is a chain that keeps the supporters
VOTING and ends with the count compared. -/
theorem quorumLawKept : Obligations.QuorumLawKept := by
  intro s t law next
  obtain ⟨quorate, supporters⟩ := (quorumLaw_iff s).mp law
  refine (quorumLaw_iff t).mpr ?_
  rcases reset_or_evolves (step_blocksEvent next) with ⟨record, reset⟩ | chain
  · rw [reset]
    exact ⟨.of_idle (by simp [Blocks.reset]), .of_no_ballots rfl⟩
  · exact ⟨quorate.evolves supporters chain rfl, supporters.evolves chain⟩

end Machine

end Sys2Proof
end

section
/-! # The resets and the state after reset (05 R92, R93, 10 R177) -/

namespace Sys2Proof.Machine

/-- Every block and staging area after a reset (05 R92, R93). -/
theorem holdsResetState_of_reset {s : State} {record : Option LockoutRecord}
    (blocks : s.toBlocks = { Blocks.reset with lockoutRecord := record })
    (staging : s.staging = Table.fill 4 StagingArea.reset) : HoldsResetState s record := by
  simp only [HoldsResetState, blocks, staging, Blocks.channelOutput, Blocks.reset, VoteEngine.reset,
    OutputStage.reset, NoticeUnit.reset, Table.row_fill]
  simp [StagingArea.reset, Memory.read, ProposalRow.empty, ChannelRecord.reset, LaneRecord.reset,
    ChannelOutput.reset, Drive.off]

theorem holdsResetState_resetTo (s : State) (record : Option LockoutRecord) (power : Power) :
    HoldsResetState (s.resetTo record power) record :=
  holdsResetState_of_reset rfl rfl

theorem Transaction.covered_eq (x : Transaction) : x.covered = if x = .none then .none else .dead := by
  cases x <;> rfl

/-- A port after a reset differs from the reset port by its transaction alone (10 R177). -/
theorem holdsResetPorts_resetTo (s : State) (record : Option LockoutRecord) (power : Power) :
    HoldsResetPorts s (s.resetTo record power) := by
  intro l
  simp only [State.resetTo_ports, Table.row_mapRows, Port.afterReset, Transaction.covered_eq]
  exact ⟨rfl, rfl, rfl, rfl, rfl, trivial⟩

/-- What a reset command leaves, the LOCKOUT record and the reset condition being given. -/
theorem State.resetTo_resets (s : State) (record : Option LockoutRecord) (power : Power) :
    HoldsResetState (s.resetTo record power) record ∧ HoldsResetPorts s (s.resetTo record power) ∧
    (s.resetTo record power).power = power ∧ (s.resetTo record power).clock = s.clock ∧
    (s.resetTo record power).pending = s.pending :=
  ⟨holdsResetState_resetTo s record power, holdsResetPorts_resetTo s record power, rfl, rfl, rfl⟩

/-- Settles O5: each reset command leaves `resetTo` with the LOCKOUT record and the reset condition it names. -/
theorem resetsLeaveTheResetState : Obligations.ResetsLeaveTheResetState := by
  intro s
  refine ⟨?powerOnReset, ?rstnAssert, fun inForce => ?powerOnResetEnd, fun ended => ?noPowerOnReset,
    fun low => ?rstnRelease, fun high => ?rstnHigh⟩
  case powerOnReset => exact ⟨_, rfl, rfl, s.resetTo_resets none ⟨true, s.power.rstnLow⟩⟩
  case rstnAssert => exact ⟨_, rfl, s.resetTo_resets s.lockoutRecord ⟨s.power.supplyReset, true⟩⟩
  case powerOnResetEnd => exact ⟨_, if_pos inForce, s.resetTo_resets none ⟨false, s.power.rstnLow⟩⟩
  case noPowerOnReset => exact if_neg (by simp [ended])
  case rstnRelease => exact ⟨_, if_pos low, s.resetTo_resets s.lockoutRecord ⟨s.power.supplyReset, false⟩⟩
  case rstnHigh => exact if_neg (by simp [high])

/-! ## The laws in the state after reset -/

@[simp] theorem device_reset : State.reset.device = .unconfigured := rfl

@[simp] theorem vote_reset : State.reset.vote = VoteEngine.reset := rfl

@[simp] theorem ballots_reset : State.reset.ballots = [] := rfl

@[simp] theorem staging_reset (l : Lane) : State.reset.staging.row l = StagingArea.reset := Table.row_fill _ l

@[simp] theorem ports_reset (l : Lane) : State.reset.ports.row l = Port.reset := Table.row_fill _ l

@[simp] theorem lanes_reset (l : Lane) : State.reset.lanes.row l = LaneRecord.reset := Table.row_fill _ l

@[simp] theorem laneState_reset (l : Lane) : State.reset.laneState l = .absent :=
  congrArg LaneRecord.state (lanes_reset l)

@[simp] theorem readers_reset (l : Lane) : State.reset.notices.readers.row l = none := Table.row_fill _ l

/-- No lane is a reader after reset, so none has an unread notice (09 R149). -/
@[simp] theorem unread_reset (l : Lane) : State.reset.notices.unread l = 0 := by
  simp [NoticeUnit.unread]

theorem imagesCanonical_reset : ImagesCanonical State.reset :=
  ⟨fun l => by rw [staging_reset]; exact Memory.wf_nil, fun _ set => by cases set⟩

theorem attnLaw_reset : AttnLaw State.reset := by
  intro l
  simp [Port.reset]

theorem noticeLaw_reset : NoticeLaw State.reset := by
  refine ⟨Nat.zero_le _, fun _ _ listed => ?_, fun l => by simp, fun l => by simp, fun l r reader => ?_⟩
  · cases listed
  · simp at reader

theorem responseLaw_reset : ResponseLaw State.reset := by
  intro l
  simp [Port.reset, StagingArea.reset]

theorem roundLaw_reset : RoundLaw State.reset := by
  refine ⟨by simp [VoteEngine.reset], by simp [VoteEngine.reset], fun l _ c => ?_⟩
  simp [VoteEngine.reset, ProposalRow.empty]

theorem quorumLaw_reset : QuorumLaw State.reset :=
  (quorumLaw_iff _).mpr ⟨.of_idle (by simp), .of_no_ballots ballots_reset⟩

theorem laneRecordLaw_reset : LaneRecordLaw State.reset := by
  intro l
  refine ⟨by simp [LaneRecord.reset], by simp [LaneRecord.reset], by simp [LaneRecord.reset], fun _ active => ?_⟩
  cases active

theorem membershipLaw_reset : MembershipLaw State.reset := by
  refine ⟨fun _ => rfl, by simp, by simp, fun l c held => ?_⟩
  simp [State.reset, Blocks.reset, OutputStage.reset] at held

theorem ballotLaw_reset : BallotLaw State.reset := by
  simp [BallotLaw]

theorem imagesValid_reset : ImagesValid State.reset := by
  refine ⟨fun l => by simp [StagingArea.reset], fun l => by simp [StagingArea.reset], fun _ set => ?_,
    fun _ listed => ?_, fun _ active => ?_⟩
  · cases set
  · cases listed
  · cases active

theorem configLaw_reset : ConfigLaw State.reset := fun _ active => by cases active

/-- Settles O6: the items are those a reset leaves, and each law holds of an unconfigured part with nothing queued. -/
theorem lawsHoldAtReset : Obligations.LawsHoldAtReset := by
  have ports : HoldsResetPorts State.reset State.reset := fun l => by simp [Port.reset]
  exact ⟨holdsResetState_of_reset rfl rfl, ports, rfl, rfl, rfl, imagesCanonical_reset, failnRight_reset none,
    attnLaw_reset, noticeLaw_reset, responseLaw_reset, driveLaw_of_driven (driven_reset none), roundLaw_reset,
    quorumLaw_reset, laneRecordLaw_reset, membershipLaw_reset, ballotLaw_reset, imagesValid_reset, configLaw_reset,
    exclusionLaw_of_exclusive (exclusive_reset none)⟩

end Sys2Proof.Machine
end

section
/-! # The ballot law (06 R94)

Ballots enter the table by a SUPPORT alone, which gives a new one a free slot and an action that no open ballot has. Every
other event thins the table: ballots leave it or change supporters or lifetime, and one that would be left with no
supporter leaves. -/

/-- A set to which a member was added is not empty. -/
theorem Sys2Proof.IndexSet.insert_ne_zero {n : Nat} (s : IndexSet n) (i : Fin n) : s.insert i ≠ 0 := by
  rw [Ne, eq_zero_iff]
  intro none
  simpa [has_insert] using none i

namespace Sys2Proof

/-- Different indexes below `n` are at most `n`. -/
theorem length_le_of_nodup {n : Nat} {indexes : List (Fin n)} (different : indexes.Nodup) : indexes.length ≤ n := by
  have same : indexes.Perm ((List.finRange n).filter fun i => decide (i ∈ indexes)) :=
    (List.perm_ext_iff_of_nodup different (List.Pairwise.sublist List.filter_sublist (List.nodup_finRange n))).mpr
      fun i => by simp only [List.mem_filter, List.mem_finRange, true_and, decide_eq_true_eq]
  calc indexes.length = _ := same.length_eq
    _ ≤ (List.finRange n).length := List.length_filter_le ..
    _ = n := List.length_finRange

/-- Of a list whose images are different, two elements with one image are one. -/
theorem eq_of_nodup_map {α β : Type} {f : α → β} {xs : List α} (different : (xs.map f).Nodup) {x y : α} (hx : x ∈ xs)
    (hy : y ∈ xs) (same : f x = f y) : x = y := by
  induction xs with
  | nil => cases hx
  | cons z rest ih =>
    rw [List.map_cons, List.nodup_cons] at different
    obtain ⟨apart, different⟩ := different
    rcases List.mem_cons.mp hx with rfl | x_later
    · rcases List.mem_cons.mp hy with rfl | y_later
      · rfl
      · exact absurd (same ▸ List.mem_map_of_mem y_later) apart
    · rcases List.mem_cons.mp hy with rfl | y_later
      · exact absurd (same ▸ List.mem_map_of_mem x_later) apart
      · exact ih different x_later y_later

end Sys2Proof

namespace Sys2Proof.Machine

/-- The ballot law of the blocks; that there are at most 8 ballots follows from their slots being different. -/
structure TableLawful (b : Blocks) : Prop where
  slots : (b.ballots.map Ballot.slot).Nodup
  actions : (b.ballots.map Ballot.action).Nodup
  supported : ∀ x ∈ b.ballots, x.supporters ≠ 0

theorem ballotLaw_iff (s : State) : BallotLaw s ↔ TableLawful s.toBlocks := by
  refine ⟨fun ⟨_, slots, actions, supported⟩ => ⟨slots, actions, supported⟩, fun law => ?_⟩
  have atMost := length_le_of_nodup law.slots
  rw [List.length_map] at atMost
  exact ⟨atMost, law.slots, law.actions, law.supported⟩

namespace TableLawful

variable {b d : Blocks}

theorem congr (h : TableLawful b) (same : d.ballots = b.ballots) : TableLawful d :=
  ⟨same ▸ h.slots, same ▸ h.actions, same ▸ h.supported⟩

theorem of_no_ballots (h : b.ballots = []) : TableLawful b := by
  constructor <;> simp [h]

/-! ## The table -/

/-- Ballots that leave, or change supporters or lifetime, leave the others' slots and actions different. -/
theorem thinned (h : TableLawful b) {f : Ballot → Ballot} (slot : ∀ x, (f x).slot = x.slot)
    (action : ∀ x, (f x).action = x.action) (thins : d.ballots.Sublist (b.ballots.map f))
    (supported : ∀ y ∈ d.ballots, y.supporters ≠ 0) : TableLawful d where
  slots := by
    have kept : (b.ballots.map f).map Ballot.slot = b.ballots.map Ballot.slot := by simp [slot]
    exact h.slots.sublist (kept ▸ thins.map Ballot.slot)
  actions := by
    have kept : (b.ballots.map f).map Ballot.action = b.ballots.map Ballot.action := by simp [action]
    exact h.actions.sublist (kept ▸ thins.map Ballot.action)
  supported := supported

/-- A ballot left with no supporter is removed (06 R105). -/
theorem removeSupporter (h : TableLawful b) (l : Lane) (concerned : Ballot → Bool) :
    TableLawful (b.removeSupporter l concerned) := by
  have ballots := b.ballots_removeSupporter l concerned
  refine h.thinned (f := fun x => if concerned x then { x with supporters := x.supporters.erase l } else x)
    (fun x => ?_) (fun x => ?_) (ballots ▸ List.filter_sublist) fun y listed => ?_
  · split <;> rfl
  · split <;> rfl
  · rw [ballots] at listed
    obtain ⟨-, left⟩ := List.mem_filter.mp listed
    exact bne_iff_ne.mp left

theorem removeBallot (h : TableLawful b) (slot : BallotSlot) : TableLawful (b.removeBallot slot) :=
  h.thinned (f := id) (fun _ => rfl) (fun _ => rfl) (by rw [List.map_id]; exact List.filter_sublist)
    fun y listed => h.supported y (List.mem_filter.mp listed).1

theorem setSupporters (h : TableLawful b) (slot : BallotSlot) {supporters : LaneSet} (some_left : supporters ≠ 0) :
    TableLawful (b.setSupporters slot supporters) := by
  refine h.thinned (f := fun x => if x.slot = slot then { x with supporters := supporters } else x)
    (fun x => ?_) (fun x => ?_) (List.Sublist.refl _) fun y listed => ?_
  · split <;> rfl
  · split <;> rfl
  · obtain ⟨x, old, rfl⟩ := List.mem_map.mp listed
    split
    · exact some_left
    · exact h.supported x old

theorem timersLater (h : TableLawful b) : TableLawful b.timersLater := by
  refine h.thinned (f := fun x => { x with lifetime := x.lifetime - 1 }) (fun _ => rfl) (fun _ => rfl)
    (List.Sublist.refl _) fun y listed => ?_
  obtain ⟨x, old, rfl⟩ := List.mem_map.mp listed
  exact h.supported x old

/-- A new ballot takes a free slot, has an action no open ballot has, and the supporter that created it (06 R98). -/
theorem createBallot (h : TableLawful b) {slot : BallotSlot} {action : BallotAction}
    (free : ∀ x ∈ b.ballots, x.slot ≠ slot) (new : ∀ x ∈ b.ballots, x.action ≠ action) (staging : Staging) (l : Lane) :
    TableLawful (b.createBallot staging l action slot) where
  slots := by
    simpa [Blocks.createBallot, List.nodup_append, h.slots] using free
  actions := by
    simpa [Blocks.createBallot, List.nodup_append, h.actions] using new
  supported y listed := by
    rcases List.mem_append.mp listed with old | created
    · exact h.supported y old
    · rw [List.mem_singleton.mp created]
      exact IndexSet.insert_ne_zero _ l

/-! ## Lanes (04 R65 to R74) -/

/-- A lane that leaves VOTING or LINKED leaves every ballot (04 R73 step 4). -/
theorem moveLane (h : TableLawful b) (l : Lane) (r : LaneRecord) (cause : MemberCause) (recompute : Bool) :
    TableLawful (b.moveLane l r cause recompute) := by
  simp only [Blocks.moveLane, Blocks.supporterStep]
  split
  · refine removeSupporter ?_ l _
    exact h.congr (by simp)
  · exact h.congr (by simp)

theorem admitLane (h : TableLawful b) (l : Lane) : TableLawful (b.admitLane l) := by
  unfold Blocks.admitLane
  split
  · exact h.moveLane ..
  · exact h

theorem admitReady (h : TableLawful b) : TableLawful b.admitReady :=
  List.foldlRecOn _ _ h fun _ moved l _ => moved.admitLane l

theorem excludeAtThreshold (h : TableLawful b) (l : Lane) : TableLawful (b.excludeAtThreshold l) := by
  unfold Blocks.excludeAtThreshold
  split
  · exact h.moveLane ..
  · exact h

theorem applyReport (h : TableLawful b) (report : List (Lane × Bool)) : TableLawful (b.applyReport report) := by
  have struck : TableLawful (report.foldl Blocks.applyStrike b) :=
    List.foldlRecOn _ _ h fun _ lawful _ _ => lawful.congr rfl
  exact admitReady (List.foldlRecOn _ _ struck fun _ moved l _ => moved.excludeAtThreshold l)

/-! ## The device state and the switch (05 R80 to R84, 07 R124) -/

theorem carryOutPending (h : TableLawful b) : TableLawful b.carryOutPending := by
  unfold Blocks.carryOutPending
  split
  · exact of_no_ballots (by simp)
  · exact h

theorem safeHoldSteps (h : TableLawful b) : TableLawful b.safeHoldSteps := by
  refine admitReady ?_
  exact h.congr (by simp)

theorem reportCount (h : TableLawful b) : TableLawful b.reportCount := by
  unfold Blocks.reportCount
  split
  · split
    · exact h.congr (by simp)
    · exact h
  · split
    · exact h
    · exact h.safeHoldSteps.carryOutPending
  all_goals exact h

theorem switchAtClose (h : TableLawful b) : TableLawful b.switchAtClose := by
  unfold Blocks.switchAtClose
  split
  · rename_i p _ _
    have discarded : TableLawful (b.switchTo p) := of_no_ballots (by simp)
    split
    · exact discarded
    · exact discarded.safeHoldSteps
  · exact h

theorem firstSwitch (h : TableLawful b) : TableLawful b.firstSwitch := by
  have gathering : TableLawful (({ b.carryOutPending with device := .gathering } : Blocks).postState .unconfigured
      .gathering .firstSwitch) := h.carryOutPending.congr rfl
  exact gathering.admitReady.reportCount

/-! ## The round (02 R19 to R27) -/

theorem closeRound (h : TableLawful b) (evalB : Option Evaluation) : TableLawful (b.closeRound evalB) := by
  unfold Blocks.closeRound
  split
  · have committed : TableLawful (b.commitRound b.evaluate) := h.congr (by simp [Blocks.commitRound])
    exact (committed.applyReport _).reportCount.switchAtClose
  · exact of_no_ballots (by simp)

theorem retest (h : TableLawful b) (evalB : Option Evaluation) : TableLawful (b.retest evalB) := by
  unfold Blocks.retest
  split
  · exact h.closeRound evalB
  · exact h

theorem closeIfComplete (h : TableLawful b) (evalB : Option Evaluation) : TableLawful (b.closeIfComplete evalB) := by
  unfold Blocks.closeIfComplete
  split
  · exact h.closeRound evalB
  · exact h

/-- Seven refusals leave the blocks before the entries are looked at (02 R19). -/
theorem propose (h : TableLawful b) (l : Lane) (round : BitVec 16) (entries : List (Nat × Nat))
    (evalB : Option Evaluation) : TableLawful (b.propose l round entries evalB).1 := by
  unfold Blocks.propose
  iterate 7
    split
    · exact h
  split
  · exact h
  · refine closeIfComplete ?_ evalB
    exact h.congr (by simp)

/-! ## Lane events outside a close (04) -/

theorem laneEvent (h : TableLawful b) (l : Lane) (r : LaneRecord) (cause : MemberCause)
    (evalB : Option Evaluation) : TableLawful (b.laneEvent l r cause evalB) := by
  unfold Blocks.laneEvent
  simp only
  split
  · exact ((h.moveLane l r cause true).retest evalB).reportCount
  · exact h.moveLane l r cause true

theorem admitOutsideRunning (h : TableLawful b) (l : Lane) : TableLawful (b.admitOutsideRunning l) := by
  unfold Blocks.admitOutsideRunning
  split
  · exact (h.admitLane l).reportCount
  · exact (h.admitLane l).reportCount
  all_goals exact h

theorem join (h : TableLawful b) (l : Lane) (digest : Digest) : TableLawful (b.join l digest).1 := by
  unfold Blocks.join
  split
  · exact h
  · exact h.moveLane ..
  · split
    · exact h
    split
    · exact h
    · exact (h.moveLane ..).admitOutsideRunning l
  all_goals exact h.congr rfl

theorem leave (h : TableLawful b) (l : Lane) (evalB : Option Evaluation) : TableLawful (b.leave l evalB).1 := by
  unfold Blocks.leave
  split
  iterate 3 exact h
  all_goals exact h.laneEvent ..

theorem takeReturn (h : TableLawful b) (l : Lane) : TableLawful (b.takeReturn l) := by
  refine admitOutsideRunning ?_ l
  exact h.congr rfl

theorem renew (h : TableLawful b) (l : Lane) : TableLawful (b.renew l) := by
  unfold Blocks.renew
  split
  iterate 4 exact h
  · exact h.congr rfl
  · exact h.congr rfl
  · split
    · exact h.congr rfl
    · exact h.takeReturn l

theorem leaseExpires (h : TableLawful b) (l : Lane) (evalB : Option Evaluation) :
    TableLawful (b.leaseExpires l evalB) := by
  unfold Blocks.leaseExpires
  simp only
  split
  · exact h.laneEvent ..
  · exact h.laneEvent ..
  · split
    · exact h.congr rfl
    · exact h
  all_goals exact h

theorem graceExpires (h : TableLawful b) (l : Lane) : TableLawful (b.graceExpires l) := by
  unfold Blocks.graceExpires
  simp only
  split
  · exact h.laneEvent ..
  · exact h

/-! ## SUPPORT (06 R96 to R104) -/

theorem commitConfig (h : TableLawful b) (image : Memory) (d : Digest) : TableLawful (b.commitConfig image d) := by
  have pending : TableLawful { b with pendingRecord := some ⟨image, d⟩ } := h.congr rfl
  unfold Blocks.commitConfig
  simp only
  split
  · exact pending.firstSwitch
  · exact pending.carryOutPending
  all_goals exact pending

theorem readmit (h : TableLawful b) (l : Lane) : TableLawful (b.readmit l) :=
  (h.moveLane l _ _ _).admitOutsideRunning l

/-- The ballot that passes has left the table; none enters it when its action is carried out (06 R102, R103). -/
theorem pass (h : TableLawful b) (staging : Staging) (x : Ballot) (supporters : LaneSet) :
    TableLawful (b.pass staging x supporters) := by
  have removed : TableLawful ((b.removeBallot x.slot).post (.ballotPassed x.slot x.action supporters)) :=
    (h.removeBallot x.slot).congr rfl
  unfold Blocks.pass
  generalize x.action = action at removed ⊢
  cases action with
  | clearFault c => exact removed.congr (by simp [Blocks.carryOut])
  | readmit l => exact removed.readmit l
  | resume => exact removed.congr (by simp [Blocks.carryOut])
  | commitConfig d =>
    simp only [Blocks.carryOut]
    split
    · exact removed.commitConfig ..
    · exact removed

theorem addSupport (h : TableLawful b) (staging : Staging) (l : Lane) (x : Ballot) :
    TableLawful (b.addSupport staging l x).1 := by
  unfold Blocks.addSupport
  simp only
  split
  · exact h.pass ..
  · exact h.setSupporters x.slot (IndexSet.insert_ne_zero _ l)

theorem supportTable (h : TableLawful b) (staging : Staging) (l : Lane) (action : BallotAction) :
    TableLawful (b.supportTable staging l action).1 := by
  unfold Blocks.supportTable
  split
  · split
    · exact h
    · exact h.addSupport ..
  · rename_i slot none_open free
    refine h.createBallot (fun x listed taken => ?_) (fun x listed same => ?_) staging l
    · have unused := List.find?_some free
      simp only [Bool.not_eq_true', List.any_eq_false, beq_iff_eq] at unused
      exact unused x listed taken
    · exact List.find?_eq_none.mp none_open x listed (by simpa using same)
  · exact h

theorem support (h : TableLawful b) (staging : Staging) (l : Lane) (action : BallotAction) :
    TableLawful (b.support staging l action).1 := by
  unfold Blocks.support
  iterate 3
    split
    · exact h
  exact h.supportTable ..

end TableLawful

/-! ## Events -/

/-- A request leaves the table lawful. -/
theorem TableLawful.handled {b : Blocks} (h : TableLawful b) (staging : Staging) (l : Lane) (kind : Byte)
    (payload : List Byte) (evalB : Option Evaluation) :
    TableLawful (handlerOf l kind payload evalB b staging).blocks := by
  generalize taken : handlerOf l kind payload evalB = handle
  unfold handlerOf at taken
  split at taken <;> subst taken
  · unfold handleJoin
    split
    · exact h.renew l
    · exact (h.join ..).renew l
  · unfold handleLeave
    split
    · exact h
    · exact h.leave ..
  · unfold handleKeepalive
    split
    · exact h.renew l
    · exact h.renew l
  · unfold handlePropose
    split
    · exact h.renew l
    · exact (h.propose ..).renew l
  · unfold handleVeto
    split
    · exact h
    iterate 4
      split
      · exact h
    exact h.congr rfl
  · unfold handleSupport
    split
    · exact h
    · rw [blocks_served]
      exact h.support ..
  · rwa [blocks_handleStageWrite]
  · rwa [blocks_handleStageSeal]
  · unfold handleStageOpen
    split
    · exact h
    split
    · exact h
    split
    · exact h
    · exact h
    · rw [blocks_unchanged]
      split
      · exact h.removeSupporter ..
      · exact h
  · rwa [blocks_handleReadStaging]
  · unfold handleFetchNotices
    split
    · exact h
    split
    · exact h
    · exact h.congr rfl
  · rwa [blocks_handleReadStatus]
  · rwa [blocks_handleReadChannels]
  · rwa [blocks_handleReadBallots]
  · rwa [blocks_handleUnknown]

/-- An expiry leaves the table lawful. -/
theorem TableLawful.expired {s : State} (h : TableLawful s.toBlocks) (n : TimerName) (evalB : Option Evaluation) :
    TableLawful (s.expire evalB n).toBlocks := by
  cases n with
  | deadline => exact h.closeRound evalB
  | lease l => exact h.leaseExpires l evalB
  | grace l => exact h.graceExpires l
  | lifetime slot =>
    simp only [State.expire]
    split
    · exact (h.removeBallot _).congr rfl
    · exact h
  | sealing l => exact h
  | settle c => exact h.congr (by simp [State.expire])
  | mismatch c => exact h.congr (by simp [State.expire])

/-- Settles O17: every event of the blocks leaves the table lawful. -/
theorem ballotLawKept : Obligations.BallotLawKept := by
  intro s t law next
  have h : TableLawful s.toBlocks := (ballotLaw_iff s).mp law
  refine (ballotLaw_iff t).mpr ?_
  have event := step_blocksEvent next
  generalize t.toBlocks = after at event ⊢
  cases event with
  | unchanged => exact h
  | reset record => exact .of_no_ballots rfl
  | handled l kind payload evalB => exact h.handled ..
  | expired n evalB _ => exact h.expired n evalB
  | readback c level => exact h.congr rfl
  | storeCheck _ => exact .of_no_ballots (by simp)
  | later => exact h.timersLater

end Sys2Proof.Machine
end

section
/-! # A request that is taken and answered (10 R165 to R171) -/

namespace Sys2Proof.Machine

theorem Port.check_of_takes {s : State} {l : Lane} {q : Byte} {p : List Byte} (takes : Takes s l q p) :
    (s.ports.row l).check q = .taken := by
  obtain ⟨-, -, expected, room⟩ := takes
  exact (Port.check_taken_iff _ q).mpr ⟨expected.symm, room⟩

/-- The port after the take of a request that its owner answers. -/
theorem answered_takeRequest {s : State} (outOfReset : s.inReset = false) (l : Lane) (k q : Byte) {handle : Handler}
    {o : Outcome} {payload : List Byte} {gap : Bool} (expected : (s.ports.row l).expected = q)
    (answer : (handle s.toBlocks s.staging).answer = .reply o payload gap) :
    Answered s (s.takeRequest l k q handle) l k q o payload gap := by
  have queue := s.takeRequest_queue l k q handle
  obtain ⟨next, taken, seq, transaction⟩ := s.takeRequest_port l k q handle
  rw [answer] at queue
  have attn : ((s.takeRequest l k q handle).ports.row l).attn
      = (s.takeRequest l k q handle).attnCondition l := State.updateAttn_attn _ l
  have raised : (s.takeRequest l k q handle).attnCondition l = true := by
    have stillOut : (s.takeRequest l k q handle).inReset = false := outOfReset
    simp [State.attnCondition, stillOut, queue]
  refine ⟨⟨by rw [next, expected], taken, seq, transaction, attn.trans raised, fun m other => ?_⟩, queue⟩
  rw [s.takeRequest_other l m k q handle other.symm]

/-- A request that passes every check leaves its owner's blocks and staging areas, and the owner's reply at the end of the
queue. -/
theorem receive_answered {s : State} {l : Lane} {k q : Byte} {p : List Byte} {handle : Handler} {b : Blocks}
    {staging : Staging} {o : Outcome} {payload : List Byte} {gap : Bool} (takes : Takes s l q p)
    (served : handle s.toBlocks s.staging = ⟨b, staging, .reply o payload gap⟩) :
    OutsideKept s (s.receive l k q p handle) ∧ (s.receive l k q p handle).toBlocks = b ∧
    (s.receive l k q p handle).staging = staging ∧ Answered s (s.receive l k q p handle) l k q o payload gap := by
  have check := Port.check_of_takes takes
  obtain ⟨outOfReset, fits, expected, -⟩ := takes
  rw [s.receive_taken l k q p handle outOfReset fits check]
  obtain ⟨blocks, areas, power, clock, pending⟩ := s.takeRequest_kept l k q handle
  rw [served] at blocks areas
  exact ⟨⟨power, clock, pending⟩, blocks, areas, answered_takeRequest outOfReset l k q expected (by rw [served])⟩

/-- A request whose owner changes nothing changes the ports alone. -/
theorem receive_unchanged {s : State} {l : Lane} {k q : Byte} {p : List Byte} {handle : Handler} {o : Outcome}
    {payload : List Byte} (takes : Takes s l q p)
    (served : handle s.toBlocks s.staging = unchanged s.toBlocks s.staging o payload) :
    OnlyPorts s (s.receive l k q p handle) ∧ Answered s (s.receive l k q p handle) l k q o payload false := by
  obtain ⟨outside, blocks, staging, answered⟩ := receive_answered (k := k) takes served
  exact ⟨⟨blocks, staging, outside⟩, answered⟩

end Sys2Proof.Machine
end

section
/-! # The checks on a SUPPORT (06 R96, R97) -/

namespace Sys2Proof.Machine

namespace Blocks

variable {b : Blocks} {staging : Staging} {l : Lane} {action : BallotAction}

/-! ## Who may support -/

theorem maySupport_iff : b.maySupport l = true ↔
    (b.device = .unconfigured ∧ b.laneState l = .linked) ∨ (b.device ≠ .unconfigured ∧ b.laneState l = .voting) := by
  unfold maySupport
  by_cases unconfigured : b.device = .unconfigured <;> simp [unconfigured]

/-! ## The checks in order -/

theorem support_of_lockout (lockout : b.device = .lockout) :
    b.support staging l action = (b, .refused .lockout) := if_pos lockout

theorem support_of_not_maySupport (live : b.device ≠ .lockout) (barred : b.maySupport l = false) :
    b.support staging l action = (b, .refused .notVoting) := by
  simp [support, live, barred]

theorem support_of_inapplicable (live : b.device ≠ .lockout) (may : b.maySupport l = true) {o : Outcome}
    (refusal : b.inapplicable staging l action = some o) : b.support staging l action = (b, .refused o) := by
  simp [support, live, may, refusal]

theorem support_of_applicable (live : b.device ≠ .lockout) (may : b.maySupport l = true)
    (applicable : b.inapplicable staging l action = none) :
    b.support staging l action = b.supportTable staging l action := by
  simp [support, live, may, applicable]

end Blocks

/-! ## Which actions are applicable -/

theorem StagingArea.carries_iff (a : StagingArea) (d : Digest) :
    a.carries d = true ↔ a.state = .sealed ∧ a.digest = some d := by
  simp [StagingArea.carries]

/-- The enrolled set is the low half of the image's first byte (11 R184). -/
theorem has_imageEnrolled (m : Memory) (l : Lane) : (imageEnrolled m).has l = (Memory.read m 0).getLsbD l.val := by
  simp [imageEnrolled, IndexSet.has]

namespace Blocks

variable {b : Blocks} {staging : Staging} {l : Lane}

theorem inapplicable_clearFault_iff {c : Channel} {o : Outcome} :
    b.inapplicable staging l (.clearFault c) = some o ↔ b.fault c = .none ∧ o = .notApplicable := by
  by_cases none : b.fault c = .none <;> simp [inapplicable, none, eq_comm]

theorem inapplicable_readmit_iff {m : Lane} {o : Outcome} :
    b.inapplicable staging l (.readmit m) = some o ↔ b.laneState m ≠ .excluded ∧ o = .notApplicable := by
  by_cases excluded : b.laneState m = .excluded <;> simp [inapplicable, excluded, eq_comm]

theorem inapplicable_resume_iff {o : Outcome} :
    b.inapplicable staging l .resume = some o ↔ b.device ≠ .safeHold ∧ o = .notApplicable := by
  by_cases safeHold : b.device = .safeHold <;> simp [inapplicable, safeHold, eq_comm]

theorem inapplicable_commitConfig_of_pending {d : Digest} (pending : b.pendingRecord ≠ none) :
    b.inapplicable staging l (.commitConfig d) = some .switchPending := by
  simp [inapplicable, Option.isSome_iff_ne_none.mpr pending]

theorem inapplicable_commitConfig_of_not_carries {d : Digest} (settled : b.pendingRecord = none)
    (differs : (staging.row l).carries d = false) :
    b.inapplicable staging l (.commitConfig d) = some .stagingMismatch := by
  simp [inapplicable, settled, differs]

/-- A lane that carries the image may still not be enrolled by it, which counts while UNCONFIGURED. -/
theorem inapplicable_commitConfig_of_carries {d : Digest} (settled : b.pendingRecord = none)
    (carries : (staging.row l).carries d = true) : b.inapplicable staging l (.commitConfig d)
      = if b.device = .unconfigured ∧ (Memory.read (staging.row l).image 0).getLsbD l.val = false
        then some .notEnrolled else none := by
  simp [inapplicable, settled, carries, has_imageEnrolled]

end Blocks

/-! ## The answer -/

/-- A SUPPORT that the ballot unit refuses changes nothing but ports. -/
theorem support_refused {s : State} {l : Lane} {q : Byte} {p : List Byte} {action : BallotAction} {o : Outcome}
    (takes : Takes s l q p) (parsed : parseSupport p = some action)
    (refuses : s.toBlocks.support s.staging l action = (s.toBlocks, .refused o)) :
    ∃ t, exec (.support l q p) s = .next t ∧ OnlyPorts s t ∧ Answered s t l 0x06#8 q o [] false := by
  refine ⟨_, rfl, receive_unchanged takes ?_⟩
  simp only [handleSupport, parsed, refuses, SupportAnswer.served]

/-- Settles O47: each check that fails ends the SUPPORT with its refusal, and the ballot unit leaves the blocks. -/
theorem supportRefusals : Obligations.SupportRefusals := by
  intro s l q p action takes parsed may refused
  have may_iff : s.maySupport l = true ↔ may := Blocks.maySupport_iff
  refine ⟨fun lockout => ?_, fun live barred => ?_, fun live allowed => ?_⟩
  · exact support_refused takes parsed (Blocks.support_of_lockout lockout)
  · have not_may : s.maySupport l = false := Bool.eq_false_iff.mpr fun yes => barred (may_iff.mp yes)
    exact support_refused takes parsed (Blocks.support_of_not_maySupport live not_may)
  · have inapplicable {o : Outcome} (refusal : s.toBlocks.inapplicable s.staging l action = some o) : refused o :=
      support_refused takes parsed (Blocks.support_of_inapplicable live (may_iff.mpr allowed) refusal)
    refine ⟨?clearFault, ?readmit, ?resume, ?commitConfig⟩
    case clearFault =>
      rintro c rfl none
      exact inapplicable (Blocks.inapplicable_clearFault_iff.mpr ⟨none, rfl⟩)
    case readmit =>
      rintro m rfl other
      exact inapplicable (Blocks.inapplicable_readmit_iff.mpr ⟨other, rfl⟩)
    case resume =>
      rintro rfl other
      exact inapplicable (Blocks.inapplicable_resume_iff.mpr ⟨other, rfl⟩)
    case commitConfig =>
      rintro d rfl holds
      have carries_iff := (s.staging.row l).carries_iff d
      refine ⟨fun pending => ?_, fun settled differs => ?_, fun settled carried unconfigured unlisted => ?_⟩
      · exact inapplicable (Blocks.inapplicable_commitConfig_of_pending pending)
      · exact inapplicable (Blocks.inapplicable_commitConfig_of_not_carries settled
          (Bool.eq_false_iff.mpr fun yes => differs (carries_iff.mp yes)))
      · refine inapplicable ?_
        rw [Blocks.inapplicable_commitConfig_of_carries settled (carries_iff.mpr carried),
          if_pos ⟨unconfigured, unlisted⟩]

end Sys2Proof.Machine
end

section
/-! # Sets and their lowest member -/

/-- The first index that satisfies a predicate is the one below which none does. -/
theorem Sys2Proof.find?_finRange_eq_some_iff {n : Nat} {p : Fin n → Bool} {i : Fin n} :
    (List.finRange n).find? p = some i ↔ p i = true ∧ ∀ j, j < i → p j = false := by
  rw [List.find?_eq_some_iff_getElem]
  refine and_congr_right fun _ => ⟨?_, fun before => ⟨i.val, by simp, by simp, fun j below => ?_⟩⟩
  · rintro ⟨k, inRange, at_k, before⟩ j below
    have index : k = i.val := by simpa using congrArg Fin.val at_k
    simpa using before j.val (index ▸ below)
  · simpa using before ⟨j, Nat.lt_trans below i.isLt⟩ below

namespace Sys2Proof.IndexSet

variable {n : Nat}

/-- A member added to a set that lacks it adds one to its size. -/
theorem size_insert {s : IndexSet n} {i : Fin n} (new : s.has i = false) : (s.insert i).size = s.size + 1 := by
  have fresh : i ∉ s.members := by simp [new]
  have same : (s.insert i).members.Perm (i :: s.members) :=
    (List.perm_ext_iff_of_nodup (members_nodup _) (List.nodup_cons.mpr ⟨fresh, members_nodup s⟩)).mpr fun j => by
      rw [mem_members, has_insert, Bool.or_eq_true, decide_eq_true_eq, List.mem_cons, mem_members, or_comm, eq_comm]
  exact same.length_eq

end Sys2Proof.IndexSet

namespace Sys2Proof.Machine.Blocks

theorem lowestSupporter_eq_some_iff {supporters : LaneSet} {l : Lane} :
    lowestSupporter supporters = some l ↔ supporters.has l = true ∧ ∀ j, j < l → supporters.has j = false := by
  rw [← find?_finRange_eq_some_iff, lowestSupporter, IndexSet.members, List.head?_filter]

/-- A ballot with a supporter has a lowest-numbered one (06 R101). -/
theorem exists_lowestSupporter {supporters : LaneSet} (some_left : supporters ≠ 0) :
    ∃ l, lowestSupporter supporters = some l := by
  cases found : lowestSupporter supporters with
  | some l => exact ⟨l, rfl⟩
  | none =>
    rw [lowestSupporter, IndexSet.members, List.head?_filter, List.find?_eq_none] at found
    exact absurd ((IndexSet.eq_zero_iff supporters).mpr fun l => by simpa using found l (List.mem_finRange l)) some_left

end Sys2Proof.Machine.Blocks
end

section
/-! # READ_BALLOTS (06 R95, 10 R176, 11 R182) -/

namespace Sys2Proof.Machine

theorem length_flatMap_records {α β : Type} {record : α → List β} {n : Nat} (width : ∀ x, (record x).length = n)
    (xs : List α) : (xs.flatMap record).length = n * xs.length := by
  induction xs with
  | nil => rfl
  | cons x rest ih => rw [List.flatMap_cons, List.length_append, width, ih, List.length_cons, Nat.mul_succ, Nat.add_comm]

theorem drop_flatMap_records {α β : Type} {record : α → List β} {n : Nat} (width : ∀ x, (record x).length = n)
    (i : Nat) (xs : List α) : (xs.flatMap record).drop (n * i) = (xs.drop i).flatMap record := by
  induction i generalizing xs with
  | zero => simp
  | succ i ih =>
    cases xs with
    | nil => simp
    | cons x rest =>
      rw [List.flatMap_cons, Nat.mul_succ, Nat.add_comm, ← List.drop_drop, List.drop_left' (width x), ih]
      rfl

theorem BallotAction.length_argument (action : BallotAction) : action.argument.length = 4 := by
  cases action <;> rfl

theorem Blocks.length_ballotRecord (b : Blocks) (staging : Staging) (x : Ballot) :
    (b.ballotRecord staging x).length = 11 := by
  simp [Blocks.ballotRecord, BallotAction.length_argument, bytes16]

theorem Blocks.length_ballotsPayload (b : Blocks) (staging : Staging) :
    (b.ballotsPayload staging).length = 1 + 11 * b.ballots.length := by
  rw [Blocks.ballotsPayload, List.length_cons, length_flatMap_records (b.length_ballotRecord staging), Nat.add_comm]

/-- The record of the ballot created `i`-th among the open ones begins at byte 1 + 11 i. -/
theorem Blocks.drop_ballotsPayload {b : Blocks} {i : Nat} {x : Ballot} (listed : b.ballots[i]? = some x)
    (staging : Staging) : ∃ rest, (b.ballotsPayload staging).drop (1 + 11 * i) = b.ballotRecord staging x ++ rest := by
  obtain ⟨inRange, rfl⟩ := List.getElem?_eq_some_iff.mp listed
  rw [Nat.add_comm, Blocks.ballotsPayload, List.drop_succ_cons, drop_flatMap_records (b.length_ballotRecord staging),
    List.drop_eq_getElem_cons inRange]
  exact ⟨_, List.flatMap_cons⟩

/-! ## The quorum needed (06 R100, R101) -/

theorem Blocks.quorumNeeded_of_active {b : Blocks} {a : ActiveConfig} (active : b.active = some a) (staging : Staging)
    (supporters : LaneSet) : b.quorumNeeded staging supporters = a.record.quorum := by
  simp [Blocks.quorumNeeded, active]

theorem Blocks.quorumNeeded_of_lowest {b : Blocks} {l : Lane} {supporters : LaneSet} (inactive : b.active = none)
    (lowest : lowestSupporter supporters = some l) (staging : Staging) :
    b.quorumNeeded staging supporters = imageByte (staging.row l).image 1 := by
  simp [Blocks.quorumNeeded, inactive, lowest, imageQuorum, Memory.u8]

theorem byte_toNat (x : Byte) : byte x.toNat = x := by simp [byte]

/-- Settles O60: byte by byte the record that stands at its place in the payload. -/
theorem readBallotsListsTheTable : Obligations.ReadBallotsListsTheTable := by
  intro s l q takes
  have runs := receive_unchanged (k := 0x0E#8) (handle := handleReadBallots []) takes rfl
  obtain ⟨ports, answered⟩ := runs
  refine ⟨_, s.ballotsPayload s.staging, rfl, ports, answered, s.length_ballotsPayload s.staging, rfl, ?_⟩
  intro i x listed r
  obtain ⟨rest, record⟩ := Blocks.drop_ballotsPayload listed s.staging
  obtain ⟨a0, a1, a2, a3, argument⟩ : ∃ a0 a1 a2 a3, x.action.argument = [a0, a1, a2, a3] := by
    cases x.action <;> exact ⟨_, _, _, _, rfl⟩
  have bytes : r = [byte x.slot.val, x.action.code, a0, a1, a2, a3, laneSetByte x.supporters, byte x.supporters.size,
      byte (s.quorumNeeded s.staging x.supporters)] ++ bytes16 x.lifetime ++ rest := by
    rw [show r = _ from record, Blocks.ballotRecord, argument]
    rfl
  rw [bytes, argument]
  refine ⟨rfl, rfl, rfl, rfl, rfl, fun a active => ?_, fun m inactive member lowest => ?_, rfl⟩
  · exact congrArg byte (Blocks.quorumNeeded_of_active active s.staging x.supporters)
  · have lowest := Blocks.lowestSupporter_eq_some_iff.mpr ⟨member, lowest⟩
    exact (congrArg byte (Blocks.quorumNeeded_of_lowest inactive lowest s.staging)).trans (byte_toNat _)

end Sys2Proof.Machine
end

section
/-! # The ballot table under a SUPPORT (06 R96 checks 4 to 7, R98 to R101) -/

namespace Sys2Proof.Machine

namespace Blocks

variable {b : Blocks} {staging : Staging} {l : Lane} {action : BallotAction}

/-! ## The ballot of an action, and a free slot -/

theorem ballotFor_eq_none (h : ∀ x ∈ b.ballots, x.action ≠ action) : b.ballotFor action = none :=
  List.find?_eq_none.mpr fun x listed => by simpa using h x listed

/-- No two open ballots have the same action, so the one that has it is the one found (06 R94). -/
theorem ballotFor_of_mem (law : TableLawful b) {x : Ballot} (listed : x ∈ b.ballots) :
    b.ballotFor x.action = some x := by
  cases found : b.ballotFor x.action with
  | none => simpa using List.find?_eq_none.mp found x listed
  | some y =>
    have same : y.action = x.action := by simpa using List.find?_some found
    rw [eq_of_nodup_map law.actions (List.mem_of_find?_eq_some found) listed same]

theorem freeSlot_eq_some {i : BallotSlot} (free : ∀ x ∈ b.ballots, x.slot ≠ i)
    (taken : ∀ j, j < i → ∃ x ∈ b.ballots, x.slot = j) : b.freeSlot = some i :=
  find?_finRange_eq_some_iff.mpr ⟨by simpa using free, fun j below => by simpa using taken j below⟩

theorem freeSlot_eq_none (taken : ∀ i, ∃ x ∈ b.ballots, x.slot = i) : b.freeSlot = none :=
  List.find?_eq_none.mpr fun i _ => by simpa using taken i

/-! ## The cases of the table -/

theorem supportTable_of_free {i : BallotSlot} (new : b.ballotFor action = none) (free : b.freeSlot = some i) :
    b.supportTable staging l action = (b.createBallot staging l action i,
      .accepted i .created 1 (b.quorumNeeded staging (IndexSet.insert 0 l))) := by
  simp only [supportTable, new, free]

theorem supportTable_of_full (new : b.ballotFor action = none) (full : b.freeSlot = none) :
    b.supportTable staging l action = (b, .refused .ballotFull) := by
  simp only [supportTable, new, full]

theorem supportTable_of_supporter {x : Ballot} (found : b.ballotFor action = some x)
    (member : x.supporters.has l = true) : b.supportTable staging l action =
      (b, .accepted x.slot .unchanged x.supporters.size (b.quorumNeeded staging x.supporters)) := by
  simp only [supportTable, found, member, if_true]

theorem supportTable_of_joiner {x : Ballot} (found : b.ballotFor action = some x)
    (joins : x.supporters.has l = false) : b.supportTable staging l action = b.addSupport staging l x := by
  simp only [supportTable, found, joins, Bool.false_eq_true, if_false]

theorem addSupport_of_short {x : Ballot} (joins : x.supporters.has l = false)
    (short : x.supporters.size + 1 < b.quorumNeeded staging (x.supporters.insert l)) :
    b.addSupport staging l x = (b.setSupporters x.slot (x.supporters.insert l),
      .accepted x.slot .added (x.supporters.size + 1) (b.quorumNeeded staging (x.supporters.insert l))) := by
  simp only [addSupport, IndexSet.size_insert joins, if_neg (Nat.not_le.mpr short)]

theorem addSupport_of_enough {x : Ballot} (joins : x.supporters.has l = false)
    (enough : b.quorumNeeded staging (x.supporters.insert l) ≤ x.supporters.size + 1) :
    b.addSupport staging l x = (b.pass staging x (x.supporters.insert l),
      .accepted x.slot .passed (x.supporters.size + 1) (b.quorumNeeded staging (x.supporters.insert l))) := by
  simp only [addSupport, IndexSet.size_insert joins, if_pos enough]

/-- The ballot in the slot is the only one that changes (06 R94). -/
theorem setSupporters_insert (law : TableLawful b) {x : Ballot} (listed : x ∈ b.ballots) (l : Lane) :
    b.setSupporters x.slot (x.supporters.insert l) = { b with ballots := b.ballots.map fun y =>
      if y.slot = x.slot then { y with supporters := y.supporters.insert l } else y } := by
  have same : ∀ y ∈ b.ballots,
      (if y.slot = x.slot then { y with supporters := x.supporters.insert l } else y)
        = if y.slot = x.slot then { y with supporters := y.supporters.insert l } else y := by
    intro y other
    by_cases slot : y.slot = x.slot
    · rw [eq_of_nodup_map law.slots other listed slot]
    · rw [if_neg slot, if_neg slot]
  simp only [setSupporters, List.map_congr_left same]

end Blocks

/-! ## The quorum needed, as the statements give it -/

/-- `k` is the quorum needed by a ballot with the supporters given: the Q of the active configuration, or while there is
none the Q in the image of the lowest-numbered supporter (06 R100, R101). -/
def NeedsQuorum (s : State) (supporters : LaneSet) (k : Nat) : Prop :=
  (∀ a, s.active = some a → k = a.record.quorum) ∧
  (s.active = none → ∃ m, supporters.has m = true ∧ (∀ j, j < m → supporters.has j = false) ∧
    k = imageByte (s.staging.row m).image 1)

theorem needsQuorum_iff {s : State} {supporters : LaneSet} (some_left : supporters ≠ 0) {k : Nat} :
    NeedsQuorum s supporters k ↔ k = s.quorumNeeded s.staging supporters := by
  obtain ⟨m, lowest⟩ := Blocks.exists_lowestSupporter some_left
  obtain ⟨member, least⟩ := Blocks.lowestSupporter_eq_some_iff.mp lowest
  cases active : s.active with
  | some a =>
    rw [Blocks.quorumNeeded_of_active active]
    exact ⟨fun ⟨configured, _⟩ => configured a active, fun same => ⟨by simp [active, same], by simp [active]⟩⟩
  | none =>
    rw [Blocks.quorumNeeded_of_lowest active lowest]
    refine ⟨fun ⟨_, unconfigured⟩ => ?_, fun same => ⟨by simp [active], fun _ => ⟨m, member, least, same⟩⟩⟩
    obtain ⟨n, supports, first, same⟩ := unconfigured active
    have found := Blocks.lowestSupporter_eq_some_iff.mpr ⟨supports, first⟩
    rw [lowest, Option.some.injEq] at found
    rw [same, found]

/-! ## The answer -/

/-- A SUPPORT that the ballot unit accepts leaves the unit's blocks and answers with its numbers. -/
theorem support_accepted {s : State} {l : Lane} {q : Byte} {p : List Byte} {action : BallotAction} {b : Blocks}
    {slot : BallotSlot} {result : SupportResult} {supporters quorum : Nat} (takes : Takes s l q p)
    (parsed : parseSupport p = some action)
    (accepts : s.toBlocks.support s.staging l action = (b, .accepted slot result supporters quorum)) :
    ∃ t, exec (.support l q p) s = .next t ∧ OutsideKept s t ∧ t.staging = s.staging ∧
      Answered s t l 0x06#8 q .accepted [byte slot.val, result.code, byte supporters, byte quorum] false ∧
      t.toBlocks = b := by
  have served : handleSupport l p s.toBlocks s.staging
      = unchanged b s.staging .accepted [byte slot.val, result.code, byte supporters, byte quorum] := by
    simp only [handleSupport, parsed, accepts, SupportAnswer.served]
  obtain ⟨outside, blocks, staging, answered⟩ := receive_answered (k := 0x06#8) takes served
  exact ⟨_, rfl, outside, staging, answered, blocks⟩

/-- What makes an action applicable, as the statements give it (06 R97). -/
theorem applicable_of_conditions {s : State} {l : Lane} {action : BallotAction}
    (clearFault : ∀ c, action = .clearFault c → s.fault c ≠ .none)
    (readmit : ∀ m, action = .readmit m → s.laneState m = .excluded)
    (resume : action = .resume → s.device = .safeHold)
    (commitConfig : ∀ d, action = .commitConfig d → s.pendingRecord = none ∧ (s.staging.row l).state = .sealed ∧
      (s.staging.row l).digest = some d ∧
      (s.device = .unconfigured → (Memory.read (s.staging.row l).image 0).getLsbD l.val = true)) :
    s.toBlocks.inapplicable s.staging l action = none := by
  cases action with
  | clearFault c => simp [Blocks.inapplicable, clearFault c rfl]
  | readmit m => simp [Blocks.inapplicable, readmit m rfl]
  | resume => simp [Blocks.inapplicable, resume rfl]
  | commitConfig d =>
    obtain ⟨settled, sealed, digest, enrolled⟩ := commitConfig d rfl
    have carries := ((s.staging.row l).carries_iff d).mpr ⟨sealed, digest⟩
    rw [Blocks.inapplicable_commitConfig_of_carries settled carries, if_neg]
    rintro ⟨unconfigured, unlisted⟩
    simp [enrolled unconfigured] at unlisted

/-- Settles O48: the ballot unit reaches the table, and each clause is one case of it. -/
theorem supportBuildsTheBallot : Obligations.SupportBuildsTheBallot := by
  intro s l q p action takes parsed allowed clearFault readmit resume commitConfig law needs
  have law : TableLawful s.toBlocks := (ballotLaw_iff s).mp law
  have live : s.device ≠ .lockout := by
    rintro lockout
    rcases allowed with ⟨unconfigured, -⟩ | ⟨live, -, -⟩
    · cases lockout.symm.trans unconfigured
    · exact live lockout
  have may : s.maySupport l = true := Blocks.maySupport_iff.mpr (allowed.imp_right And.right)
  have table := Blocks.support_of_applicable live may
    (applicable_of_conditions clearFault readmit resume commitConfig)
  refine ⟨fun i new free taken => ?created, fun new taken => ?full, fun x listed same => ⟨fun member => ?supporter,
    fun k joins needed short => ?joiner⟩⟩
  case created =>
    have created := table.trans (Blocks.supportTable_of_free (Blocks.ballotFor_eq_none new)
      (Blocks.freeSlot_eq_some free taken))
    obtain ⟨t, runs, outside, staging, answered, blocks⟩ := support_accepted takes parsed created
    exact ⟨t, _, s.lifetimeFor s.staging l, runs, outside, staging,
      (needsQuorum_iff (IndexSet.insert_ne_zero 0 l)).mpr rfl, fun a active => by simp [Blocks.lifetimeFor, active],
      fun inactive => by simp [Blocks.lifetimeFor, inactive, imageLifetime, Memory.u16, Memory.u8], answered, blocks⟩
  case full =>
    exact support_refused takes parsed (table.trans (Blocks.supportTable_of_full (Blocks.ballotFor_eq_none new)
      (Blocks.freeSlot_eq_none taken)))
  case supporter =>
    subst same
    have found := table.trans (Blocks.supportTable_of_supporter (Blocks.ballotFor_of_mem law listed) member)
    obtain ⟨t, runs, outside, staging, answered, blocks⟩ := support_accepted takes parsed found
    exact ⟨t, _, runs, ⟨blocks, staging, outside⟩, (needsQuorum_iff (law.supported x listed)).mpr rfl, answered⟩
  case joiner =>
    subst same
    obtain rfl : k = _ := (needsQuorum_iff (IndexSet.insert_ne_zero x.supporters l)).mp needed
    have joined := table.trans ((Blocks.supportTable_of_joiner (Blocks.ballotFor_of_mem law listed) joins).trans
      (Blocks.addSupport_of_short joins short))
    rw [Blocks.setSupporters_insert law listed l] at joined
    exact support_accepted takes parsed joined

end Sys2Proof.Machine
end

section
/-! # The pass of a ballot (06 R102, R103) -/

/-- A row written twice holds what was written last. -/
theorem Sys2Proof.Table.put_put {n : Nat} {α : Type} (t : Table n α) (i : Fin n) (x y : α) :
    (t.put i x).put i y = t.put i y :=
  Vector.set_set ..

namespace Sys2Proof.Machine

/-- A SUPPORT from a VOTING lane that brings the open ballot `x` to the Q of the active configuration. -/
structure PassingSupport (s : State) (l : Lane) (q : Byte) (p : List Byte) (x : Ballot) (a : ActiveConfig) : Prop where
  takes : Takes s l q p
  parsed : parseSupport p = some x.action
  voting : s.laneState l = .voting
  active : s.active = some a
  law : BallotLaw s
  listed : x ∈ s.ballots
  joins : x.supporters.has l = false
  enough : a.record.quorum ≤ x.supporters.size + 1

/-- The blocks when a ballot has left the table and BALLOT_PASSED is posted, before its action is carried out. -/
def Blocks.ballotGone (b : Blocks) (x : Ballot) (supporters : LaneSet) : Blocks :=
  (b.removeBallot x.slot).post (.ballotPassed x.slot x.action supporters)

/-- The passing SUPPORT is answered PASSED, and its action is carried out on the blocks the ballot has left. -/
theorem PassingSupport.runs {s : State} {l : Lane} {q : Byte} {p : List Byte} {x : Ballot} {a : ActiveConfig}
    (h : PassingSupport s l q p x a) (configured : s.device ≠ .unconfigured) (live : s.device ≠ .lockout)
    (applicable : s.toBlocks.inapplicable s.staging l x.action = none) :
    ∃ t, exec (.support l q p) s = .next t ∧ OutsideKept s t ∧ t.staging = s.staging ∧
      Answered s t l 0x06#8 q .accepted
        [byte x.slot.val, 0x04#8, byte (x.supporters.size + 1), byte a.record.quorum] false ∧
      t.toBlocks = (s.toBlocks.ballotGone x (x.supporters.insert l)).carryOut s.staging (x.supporters.insert l)
        x.action := by
  have may : s.maySupport l = true := Blocks.maySupport_iff.mpr (.inr ⟨configured, h.voting⟩)
  have found := Blocks.ballotFor_of_mem ((ballotLaw_iff s).mp h.law) h.listed
  have needed := Blocks.quorumNeeded_of_active h.active s.staging (x.supporters.insert l)
  have accepts := ((Blocks.support_of_applicable live may applicable).trans
    (Blocks.supportTable_of_joiner found h.joins)).trans
    (Blocks.addSupport_of_enough h.joins (needed.symm ▸ h.enough))
  rw [needed] at accepts
  exact support_accepted h.takes h.parsed accepts

/-- What the three actions that copy no image leave of the table, the configuration and the LOCKOUT record. -/
def KeepsTable (b d : Blocks) : Prop :=
  d.ballots = b.ballots ∧ d.active = b.active ∧ d.pendingRecord = b.pendingRecord ∧
    d.lockoutRecord = b.lockoutRecord

theorem Blocks.ballots_ballotGone (b : Blocks) (x : Ballot) (supporters : LaneSet) :
    (b.ballotGone x supporters).ballots = b.ballots.filter fun y => decide (y.slot ≠ x.slot) :=
  List.filter_congr fun y _ => by simp [bne, Bool.beq_eq_decide_eq]

/-! ## CLEAR_FAULT (08 R143) -/

namespace Blocks

theorem vetoed_eq_false_iff (b : Blocks) (c : Channel) :
    b.vetoed c = false ↔ ∀ m, (b.output.vetoes.row m).has c = false := by
  simp [vetoed]

/-- The drive of a channel whose fault is cleared (01 R8). -/
theorem driveOf_cleared (b : Blocks) (c : Channel) : (b.setFault c .none).driveOf c =
    if b.channelType c = .unused then ⟨.unused, 0⟩
    else if b.device = .running ∧ ∀ m, (b.output.vetoes.row m).has c = false
    then ⟨b.channelType c, b.agreed c⟩ else ⟨b.channelType c, b.fallback c⟩ := by
  have fault : (b.setFault c .none).fault c = .none := by simp [Blocks.fault]
  have type : (b.setFault c .none).channelType c = b.channelType c := rfl
  have vetoed : (b.setFault c .none).vetoed c = b.vetoed c := rfl
  simp only [driveOf, type, vetoed, fault, vetoed_eq_false_iff, setFault_kept, true_and]
  cases b.channelType c <;> rfl

theorem channelOutput_clearFault (b : Blocks) (c : Channel) : (b.clearFault c).channelOutput c =
    b.superviseOutput c (({ b.channelOutput c with fault := .none } : ChannelOutput).driveTo
      ((b.setFault c .none).driveOf c) (b.entry c).settleTime) := by
  have drive : ((b.setFault c .none).post (.faultCleared c (b.fault c))).driveOf c = (b.setFault c .none).driveOf c :=
    driveOf_congr rfl rfl rfl rfl c
  simp only [clearFault, channelOutput_updateFailn, channelOutput_refreshChannel_self, refreshedOutput,
    channelOutput_post, channelOutput_setFault_self, drive]
  exact superviseOutput_congr rfl c _

theorem channelOutput_clearFault_of_ne (b : Blocks) {c d : Channel} (other : d ≠ c) :
    (b.clearFault c).channelOutput d = b.channelOutput d := by
  simp [clearFault, other]

end Blocks

/-! ## READMIT (04 R71) -/

namespace Blocks

/-- A lane that moves among the states that keep vetoes, without leaving ABSENT, VOTING or LINKED, brings about its
MEMBER_CHANGE alone (04 R73). -/
theorem moveLane_quiet {b : Blocks} {l : Lane} {r : LaneRecord} (keeps : losesVetoes r.state = false)
    (reader : b.laneState l ≠ .absent) (notVoting : b.laneState l ≠ .voting) (notLinked : b.laneState l ≠ .linked)
    (cause : MemberCause) (recompute : Bool) :
    b.moveLane l r cause recompute = (b.setLane l r).post (.memberChange l (b.laneState l) r.state cause) := by
  have present : r.state ≠ .absent := by
    intro absent
    simp [losesVetoes, absent] at keeps
  simp [moveLane, vetoStep, keeps, readerStep, present, reader, supporterStep, notVoting, notLinked]

/-- The record of a lane that a READMIT ballot makes CANDIDATE (04 R71). -/
def readmitted (b : Blocks) (l : Lane) : LaneRecord :=
  { b.lanes.row l with
    state := .candidate, strikes := 0, rejoinRequested := false, lease := some b.config.lease }

theorem readmit_eq {b : Blocks} {l : Lane} (excluded : b.laneState l = .excluded) :
    b.readmit l = ((b.setLane l (b.readmitted l)).post
      (.memberChange l .excluded .candidate .readmitted)).admitOutsideRunning l := by
  have moved := moveLane_quiet (b := b) (l := l) (r := b.readmitted l) rfl (by simp [excluded]) (by simp [excluded])
    (by simp [excluded]) .readmitted true
  rw [excluded] at moved
  exact congrArg (admitOutsideRunning · l) moved

/-- In RUNNING the lane waits for the next close (04 R65). -/
theorem readmit_of_running {b : Blocks} {l : Lane} (excluded : b.laneState l = .excluded)
    (running : b.device = .running) : b.readmit l
      = (b.setLane l (b.readmitted l)).post (.memberChange l .excluded .candidate .readmitted) := by
  rw [readmit_eq excluded]
  simp [admitOutsideRunning, running]

theorem admitLane_of_candidate {b : Blocks} {l : Lane} (candidate : b.laneState l = .candidate) :
    b.admitLane l = (b.setLane l { b.lanes.row l with state := .voting, returnPending := false }).post
      (.memberChange l .candidate .voting .admitted) := by
  have moved := moveLane_quiet (b := b) (l := l)
    (r := { b.lanes.row l with state := .voting, returnPending := false }) rfl (by simp [candidate])
    (by simp [candidate]) (by simp [candidate]) .admitted true
  rw [candidate] at moved
  simp [admitLane, readyForAdmission, candidate, moved]

/-- In SAFE_HOLD the lane is admitted at once, and no count is compared (04 R65, 05 R79). -/
theorem readmit_of_safeHold {b : Blocks} {l : Lane} (excluded : b.laneState l = .excluded)
    (safeHold : b.device = .safeHold) : b.readmit l =
      ((((b.setLane l (b.readmitted l)).post (.memberChange l .excluded .candidate .readmitted)).setLane l
        { b.readmitted l with state := .voting, returnPending := false }).post
        (.memberChange l .candidate .voting .admitted)) := by
  rw [readmit_eq excluded]
  generalize moved : (b.setLane l (b.readmitted l)).post (.memberChange l .excluded .candidate .readmitted) = d
  have device : d.device = .safeHold := by simp [← moved, safeHold]
  have row : d.lanes.row l = b.readmitted l := by simp [← moved]
  have candidate : d.laneState l = .candidate := congrArg LaneRecord.state row
  simp [admitOutsideRunning, device, admitLane_of_candidate candidate, reportCount, row]

end Blocks

/-! ## The three actions -/

/-- A passing SUPPORT whose action leaves table, configuration and LOCKOUT record as the statement says. -/
theorem PassingSupport.passes {s : State} {l : Lane} {q : Byte} {p : List Byte} {x : Ballot} {a : ActiveConfig}
    (h : PassingSupport s l q p x a) (configured : s.device ≠ .unconfigured) (live : s.device ≠ .lockout)
    (applicable : s.toBlocks.inapplicable s.staging l x.action = none) {d : Blocks}
    (carried : (s.toBlocks.ballotGone x (x.supporters.insert l)).carryOut s.staging (x.supporters.insert l) x.action
      = d)
    (keeps : KeepsTable (s.toBlocks.ballotGone x (x.supporters.insert l)) d) :
    ∃ t, (exec (.support l q p) s = .next t ∧ OutsideKept s t ∧ t.staging = s.staging ∧
      Answered s t l 0x06#8 q .accepted
        [byte x.slot.val, 0x04#8, byte (x.supporters.size + 1), byte a.record.quorum] false ∧
      t.ballots = s.ballots.filter (fun y => decide (y.slot ≠ x.slot)) ∧ t.active = s.active ∧
      t.pendingRecord = s.pendingRecord ∧ t.lockoutRecord = s.lockoutRecord) ∧ t.toBlocks = d := by
  obtain ⟨t, runs, outside, staging, answered, blocks⟩ := h.runs configured live applicable
  rw [carried] at blocks
  obtain ⟨ballots, active, pending, record⟩ := keeps
  rw [Blocks.ballots_ballotGone] at ballots
  exact ⟨t, ⟨runs, outside, staging, answered, blocks ▸ ballots, blocks ▸ active, blocks ▸ pending, blocks ▸ record⟩,
    blocks⟩

/-- A state whose blocks are those of a cleared fault: drive, timers and FAILN follow (08 R135, R137, R143, 05 R90). -/
theorem faultCleared_follows {t : State} {b : Blocks} {c : Channel} (blocks : t.toBlocks = b.clearFault c)
    (live : b.device ≠ .lockout) :
    t.fault c = .none ∧ (∀ d, d ≠ c → t.channelOutput d = b.channelOutput d) ∧
    (t.channelOutput c).drive = (if b.channelType c = .unused then ⟨.unused, 0⟩
      else if b.device = .running ∧ ∀ m, (b.output.vetoes.row m).has c = false
      then ⟨b.channelType c, b.agreed c⟩ else ⟨b.channelType c, b.fallback c⟩) ∧
    (t.channelOutput c).readback = (b.channelOutput c).readback ∧
    (t.channelOutput c).settle = settleAfter (b.channelOutput c).drive (b.channelOutput c).settle
      (t.channelOutput c).drive (b.entry c).settleTime ∧
    MismatchFollows t c (b.channelOutput c).mismatch ∧
    (t.failn = true ↔ ∃ d, t.fault d = .unsafeState) ∧
    t.notices = b.notices.post b.vote.lastEnded (.faultCleared c (b.fault c)) ∧ t.vote = b.vote ∧
    t.lanes = b.lanes ∧ t.device = b.device ∧ t.output.vetoes = b.output.vetoes := by
  have output := b.channelOutput_clearFault c
  rw [← blocks, Blocks.driveOf_cleared] at output
  have right : FailnRight t.toBlocks := blocks ▸ failnRight_updateFailn _
  have device : t.device = b.device := by simp [blocks]
  refine ⟨by simp [Blocks.fault, output], fun d other => ?_, by simp [output], by simp [output],
    by simp [output, ChannelOutput.driveTo_settle], ?_, ?_, by rw [blocks]; rfl, by simp [blocks], by simp [blocks],
    device, by rw [blocks]; rfl⟩
  · rw [blocks, b.channelOutput_clearFault_of_ne other]
  · have active : t.active = b.active := by simp [blocks]
    rw [← Blocks.superviseOutput_congr active] at output
    simpa using mismatchFollows_of_supervised t c _ output
  · rw [← device] at live
    exact right.trans (or_iff_right live)

/-- A state whose blocks are those of a lane readmitted in RUNNING (04 R71). -/
theorem readmitted_running {t : State} {b : Blocks} {m : Lane} (blocks : t.toBlocks = b.readmit m)
    (excluded : b.laneState m = .excluded) (running : b.device = .running) :
    t.lanes = b.lanes.put m (b.readmitted m) ∧
    t.notices = b.notices.post b.vote.lastEnded (.memberChange m .excluded .candidate .readmitted) ∧
    t.vote = b.vote ∧ t.output = b.output ∧ t.device = b.device ∧ t.failn = b.failn := by
  rw [Blocks.readmit_of_running excluded running] at blocks
  rw [blocks]
  exact ⟨rfl, rfl, rfl, rfl, rfl, rfl⟩

/-- A state whose blocks are those of a lane readmitted, and admitted at once, in SAFE_HOLD (04 R65, R71). -/
theorem readmitted_safeHold {t : State} {b : Blocks} {m : Lane} (blocks : t.toBlocks = b.readmit m)
    (excluded : b.laneState m = .excluded) (safeHold : b.device = .safeHold) :
    t.lanes = b.lanes.put m { b.readmitted m with state := .voting, returnPending := false } ∧
    t.notices = (b.notices.post b.vote.lastEnded (.memberChange m .excluded .candidate .readmitted)).post
      b.vote.lastEnded (.memberChange m .candidate .voting .admitted) ∧
    t.vote = b.vote ∧ t.output = b.output ∧ t.device = b.device ∧ t.failn = b.failn := by
  rw [Blocks.readmit_of_safeHold excluded safeHold] at blocks
  rw [blocks]
  exact ⟨Table.put_put .., rfl, rfl, rfl, rfl, rfl⟩

/-- A state whose blocks are those of a RESUME carried out: RUNNING, with a round open (05 R83). -/
theorem resumed_follows {t : State} {b : Blocks} (blocks : t.toBlocks = b.resume) :
    t.device = .running ∧ t.vote.openRound = .idle ∧ t.vote.nextRound = b.vote.nextRound ∧ t.vote.proposers = 0 ∧
    t.vote.channels = b.vote.channels ∧ t.lanes = b.lanes ∧
    t.notices = b.notices.post b.vote.lastEnded (.stateChange .safeHold .running .resumed) ∧ t.failn = b.failn ∧
    ∀ c, t.fault c = b.fault c := by
  rw [blocks]
  exact ⟨rfl, rfl, rfl, rfl, rfl, rfl, rfl, rfl,
    Blocks.fault_refreshOutputs ({ b with device := .running } : Blocks).openNextRound⟩

theorem keepsTable_readmit {b : Blocks} {m : Lane} (excluded : b.laneState m = .excluded)
    (device : b.device = .running ∨ b.device = .safeHold) : KeepsTable b (b.readmit m) := by
  rcases device with running | safeHold
  · rw [Blocks.readmit_of_running excluded running]
    exact ⟨rfl, rfl, rfl, rfl⟩
  · rw [Blocks.readmit_of_safeHold excluded safeHold]
    exact ⟨rfl, rfl, rfl, rfl⟩

/-- Settles O49: `PassingSupport.passes` gives the answer and the blocks, and each action is carried out as its own lemmas
say. -/
theorem passedBallotIsCarriedOut : Obligations.PassedBallotIsCarriedOut := by
  intro s l q p x a takes parsed voting active law listed joins enough passed noted
  have h : PassingSupport s l q p x a := ⟨takes, parsed, voting, active, law, listed, joins, enough⟩
  refine ⟨?clearFault, ?readmit, ?resume⟩
  case clearFault =>
    intro c action configured live faulted
    obtain ⟨t, passes, blocks⟩ := h.passes configured live (by simp [action, Blocks.inapplicable, faulted])
      (d := (s.toBlocks.ballotGone x (x.supporters.insert l)).clearFault c) (by rw [action]; rfl) (by simp [KeepsTable])
    exact ⟨t, passes, faultCleared_follows blocks live⟩
  case readmit =>
    intro m action excluded readmitted
    have config : s.config = a.record := by simp [Blocks.config, active]
    have applicable : s.toBlocks.inapplicable s.staging l x.action = none := by
      simp [action, Blocks.inapplicable, excluded]
    have passes (device : s.device = .running ∨ s.device = .safeHold) := by
      obtain ⟨configured, live⟩ : s.device ≠ .unconfigured ∧ s.device ≠ .lockout := by
        rcases device with running | safeHold
        · simp [running]
        · simp [safeHold]
      exact h.passes (d := (s.toBlocks.ballotGone x (x.supporters.insert l)).readmit m) configured live applicable
        (by rw [action]; rfl) (keepsTable_readmit excluded device)
    rw [← config]
    refine ⟨fun running => ?_, fun safeHold => ?_⟩
    · obtain ⟨t, passes, blocks⟩ := passes (.inl running)
      exact ⟨t, passes, readmitted_running blocks excluded running⟩
    · obtain ⟨t, passes, blocks⟩ := passes (.inr safeHold)
      exact ⟨t, passes, readmitted_safeHold blocks excluded safeHold⟩
  case resume =>
    intro action safeHold
    obtain ⟨t, passes, blocks⟩ := h.passes (by simp [safeHold]) (by simp [safeHold])
      (by simp [action, Blocks.inapplicable, safeHold])
      (d := (s.toBlocks.ballotGone x (x.supporters.insert l)).resume) (by rw [action]; rfl) (by simp [KeepsTable])
    exact ⟨t, passes, resumed_follows blocks⟩

end Sys2Proof.Machine
end

section
/-! # What a switch leaves (07 R124, R125) -/

namespace Sys2Proof.Machine

/-- The state a switch to the record `r` leaves to lane `m` from the state given (04 R72). -/
def switchedState (r : ConfigRecord) (m : Lane) (before : LaneState) : LaneState :=
  if r.enrolled.has m = true ∧ before ≠ .linked then before
  else if r.enrolled.has m = true then .candidate else .absent

theorem switchedState_switchedState (r : ConfigRecord) (m : Lane) (before : LaneState) :
    switchedState r m (switchedState r m before) = switchedState r m before := by
  by_cases enrolled : r.enrolled.has m = true
  · by_cases linked : before = .linked <;> simp [switchedState, enrolled, linked]
  · simp [switchedState, enrolled]

namespace Blocks

theorem laneState_switchLane (b : Blocks) (l m : Lane) : (b.switchLane l).laneState m =
    if l = m then switchedState b.config m (b.laneState m) else b.laneState m := by
  by_cases same : l = m
  · subst same
    rw [if_pos rfl]
    have state : (b.lanes.row l).state = b.laneState l := rfl
    unfold switchLane switchedState
    simp only [state]
    by_cases absent : b.laneState l = .absent
    · simp [absent]
    by_cases enrolled : b.config.enrolled.has l = true
    · by_cases linked : b.laneState l = .linked
      · simp [enrolled, linked]
      · simp [absent, enrolled, linked]
    · simp [absent, enrolled, absentRecord]
  · unfold switchLane
    simp only
    split
    · simp
    split
    · simp [same]
    split <;> simp [same]

theorem laneState_foldl_switchLane (ls : List Lane) (b : Blocks) (m : Lane) : (ls.foldl switchLane b).laneState m =
    if m ∈ ls then switchedState b.config m (b.laneState m) else b.laneState m := by
  induction ls generalizing b with
  | nil => simp
  | cons l rest ih =>
    have config : (b.switchLane l).config = b.config := config_congr (by simp)
    rw [List.foldl_cons, ih, config, laneState_switchLane]
    by_cases same : l = m
    · simp [same, switchedState_switchedState]
    · simp [same, Ne.symm same]

theorem row_switchLanes (b : Blocks) (m : Lane) : b.switchLanes.lanes.row m
    = { ((List.finRange 4).foldl switchLane b).lanes.row m with strikes := 0 } := by
  simp only [switchLanes, Table.row_mapRows]

theorem laneState_switchLanes (b : Blocks) (m : Lane) :
    b.switchLanes.laneState m = switchedState b.config m (b.laneState m) := by
  have moved := laneState_foldl_switchLane (List.finRange 4) b m
  rw [if_pos (List.mem_finRange m)] at moved
  rw [← moved, laneState, row_switchLanes, laneState]

theorem strikes_switchLanes (b : Blocks) (m : Lane) : (b.switchLanes.lanes.row m).strikes = 0 := by
  rw [row_switchLanes]

/-- The blocks of a switch before step 7 recomputes the drives. -/
theorem exists_switchTo_inputs (b : Blocks) (p : PendingRecord) : ∃ d : Blocks,
    b.switchTo p = d.switchLanes.refreshOutputs.updateFailn ∧ d.device = b.device ∧
    d.active = some ⟨decodeConfig p.image, p.digest⟩ ∧ d.vote = (b.switchedInputs p).vote ∧ d.lanes = b.lanes :=
  ⟨_, b.switchTo_eq p, by simp [switchedInputs], by simp [switchedInputs], by simp, by simp [switchedInputs]⟩

/-- The agreed image after a switch is the fallback image of the new record (01 R6). -/
theorem channels_switchTo (b : Blocks) (p : PendingRecord) (c : Channel) : (b.switchTo p).vote.channels.row c
    = ⟨((decodeConfig p.image).entries.row c).fallback, 0, false, false⟩ := by
  obtain ⟨d, switched, -, -, vote, -⟩ := b.exists_switchTo_inputs p
  simp only [switched, updateFailn_kept, refreshOutputs_kept, switchLanes_kept, vote]
  exact Table.row_build _ c

theorem strikes_switchTo (b : Blocks) (p : PendingRecord) (m : Lane) :
    ((b.switchTo p).lanes.row m).strikes = 0 := by
  obtain ⟨d, switched, -⟩ := b.exists_switchTo_inputs p
  rw [switched]
  exact d.strikes_switchLanes m

theorem laneState_switchTo (b : Blocks) (p : PendingRecord) (m : Lane) :
    (b.switchTo p).laneState m = switchedState (decodeConfig p.image) m (b.laneState m) := by
  obtain ⟨d, switched, -, active, -, lanes⟩ := b.exists_switchTo_inputs p
  have config : d.config = decodeConfig p.image := by simp [Blocks.config, active]
  have recomputed : d.switchLanes.refreshOutputs.updateFailn.laneState m = d.switchLanes.laneState m :=
    laneState_congr (by simp) m
  rw [switched, recomputed, d.laneState_switchLanes, config, laneState_congr lanes]

theorem driveOf_of_idle {b : Blocks} (idle : b.device ≠ .running) (c : Channel) : b.driveOf c =
    if (b.entry c).type = .unused then ⟨.unused, 0⟩ else ⟨(b.entry c).type, (b.entry c).fallback⟩ := by
  by_cases unused : b.channelType c = .unused
  · simp only [driveOf, unused, if_pos (show (b.entry c).type = .unused from unused), Drive.off]
  · rw [if_neg (show (b.entry c).type ≠ .unused from unused), driveOf_fallback b c unused (.inl idle)]
    rfl

/-- Outside RUNNING a switch drives every channel to its new fallback value (01 R8). -/
theorem drive_switchTo {b : Blocks} (idle : b.device ≠ .running) (p : PendingRecord) (c : Channel) :
    ((b.switchTo p).channelOutput c).drive =
      if ((decodeConfig p.image).entries.row c).type = .unused then ⟨.unused, 0⟩
      else ⟨((decodeConfig p.image).entries.row c).type, ((decodeConfig p.image).entries.row c).fallback⟩ := by
  obtain ⟨d, switched, device, active, -⟩ := b.exists_switchTo_inputs p
  have entry : d.switchLanes.entry c = (decodeConfig p.image).entries.row c := by
    simp [Blocks.entry, Blocks.config, active]
  have still : d.switchLanes.device ≠ .running := by simpa [device] using idle
  rw [switched, channelOutput_updateFailn, channelOutput_refreshOutputs, refreshedOutput_drive,
    driveOf_of_idle still, entry]

end Blocks

/-- A state whose blocks are those of a switch in SAFE_HOLD (07 R124). -/
theorem switched_follows {t : State} {b : Blocks} {image : Memory} {d : Digest}
    (blocks : t.toBlocks = b.switchTo ⟨image, d⟩) (safeHold : b.device = .safeHold) :
    t.pendingRecord = none ∧ t.active = some ⟨decodeConfig image, d⟩ ∧ t.device = .safeHold ∧ t.ballots = [] ∧
    (∀ c, t.vote.channels.row c = ⟨((decodeConfig image).entries.row c).fallback, 0, false, false⟩) ∧
    t.vote.nextRound = b.vote.nextRound ∧
    (∀ m, (t.lanes.row m).strikes = 0 ∧ t.laneState m = switchedState (decodeConfig image) m (b.laneState m)) ∧
    ∀ c, (t.channelOutput c).drive = (if ((decodeConfig image).entries.row c).type = .unused then ⟨.unused, 0⟩
      else ⟨((decodeConfig image).entries.row c).type, ((decodeConfig image).entries.row c).fallback⟩) := by
  rw [blocks]
  exact ⟨by simp, by simp, by simp [safeHold], b.ballots_switchTo _, b.channels_switchTo _, by simp,
    fun m => ⟨b.strikes_switchTo _ m, b.laneState_switchTo _ m⟩, Blocks.drive_switchTo (by simp [safeHold]) _⟩

end Sys2Proof.Machine
end

section
/-! # The pass of a COMMIT_CONFIG ballot (06 R104, 07 R122 to R124) -/

namespace Sys2Proof.Machine

/-- The four bytes of a digest read back, bit by bit (11 R184). -/
theorem read32_bytes32 (d : Digest) : read32 (d.extractLsb' 24 8) (d.extractLsb' 16 8) (d.extractLsb' 8 8)
    (d.extractLsb' 0 8) = d := by
  unfold read32
  apply BitVec.eq_of_getLsbD_eq
  intro i inRange
  simp only [BitVec.getLsbD_append, BitVec.getLsbD_extractLsb']
  grind

theorem parseSupport_commitConfig (d : Digest) : parseSupport (0x01#8 :: bytes32 d) = some (.commitConfig d) :=
  congrArg (fun e => some (BallotAction.commitConfig e)) (read32_bytes32 d)

/-! ## The action carried out -/

namespace Blocks

theorem commitConfig_of_running {b : Blocks} (running : b.device = .running) (image : Memory) (d : Digest) :
    b.commitConfig image d = { b with pendingRecord := some ⟨image, d⟩ } := by
  simp only [commitConfig, running]

theorem commitConfig_of_safeHold {b : Blocks} (safeHold : b.device = .safeHold) (image : Memory) (d : Digest) :
    b.commitConfig image d = ({ b with pendingRecord := some ⟨image, d⟩ } : Blocks).switchTo ⟨image, d⟩ := by
  simp only [commitConfig, safeHold, carryOutPending]

end Blocks

/-- With lane `l` the supporters of `x` have the lowest number of them all. -/
theorem lowestSupporter_insert {supporters : LaneSet} {l low : Lane} (member : low = l ∨ supporters.has low = true)
    (least : ∀ m, m < low → m ≠ l ∧ supporters.has m = false) :
    Blocks.lowestSupporter (supporters.insert l) = some low := by
  refine Blocks.lowestSupporter_eq_some_iff.mpr ⟨?_, fun m below => ?_⟩
  · rcases member with rfl | old <;> simp [IndexSet.has_insert, *]
  · obtain ⟨other, absent⟩ := least m below
    simp [IndexSet.has_insert, absent, Ne.symm other]

/-- Settles O50: the passing SUPPORT carries COMMIT_CONFIG out with the image of the lowest supporter; in SAFE_HOLD that is a
switch. -/
theorem commitCopiesTheImage : Obligations.CommitCopiesTheImage := by
  intro s l low q d x a takes voting active settled law listed action joins enough sealed digest member least image passed
  have h : PassingSupport s l q (0x01#8 :: bytes32 d) x a :=
    ⟨takes, action ▸ parseSupport_commitConfig d, voting, active, law, listed, joins, enough⟩
  have carries := ((s.staging.row l).carries_iff d).mpr ⟨sealed, digest⟩
  have commits (configured : s.device ≠ .unconfigured) (live : s.device ≠ .lockout) : ∃ t, passed t ∧
      t.toBlocks = (s.toBlocks.ballotGone x (x.supporters.insert l)).commitConfig image d := by
    have applicable : s.toBlocks.inapplicable s.staging l x.action = none := by
      rw [action, Blocks.inapplicable_commitConfig_of_carries settled carries]
      exact if_neg fun ⟨unconfigured, _⟩ => configured unconfigured
    obtain ⟨t, runs, outside, staging, answered, blocks⟩ := h.runs configured live applicable
    refine ⟨t, ⟨runs, outside, staging, answered⟩, blocks.trans ?_⟩
    simp only [action, Blocks.carryOut, lowestSupporter_insert member least]
    rfl
  refine ⟨fun running => ?_, fun safeHold => ?_⟩
  · obtain ⟨t, passes, blocks⟩ := commits (by simp [running]) (by simp [running])
    rw [Blocks.commitConfig_of_running (b := s.toBlocks.ballotGone x (x.supporters.insert l)) running] at blocks
    refine ⟨t, passes, ?_⟩
    rw [blocks]
    exact ⟨rfl, rfl, rfl, rfl, rfl, rfl, s.toBlocks.ballots_ballotGone x (x.supporters.insert l), rfl⟩
  · obtain ⟨t, passes, blocks⟩ := commits (by simp [safeHold]) (by simp [safeHold])
    rw [Blocks.commitConfig_of_safeHold (b := s.toBlocks.ballotGone x (x.supporters.insert l)) safeHold] at blocks
    have after := switched_follows blocks safeHold
    exact ⟨t, passes, after⟩

end Sys2Proof.Machine
end

section
/-! # A change of a readback level (08 R134, R137) -/

namespace Sys2Proof.Machine

/-- Settles O45: the changed output is supervised in the state it stands in, so its mismatch timer follows 08 R137. -/
theorem readbackChangeSupervises : Obligations.ReadbackChangeSupervises := by
  intro s c level outOfReset differs o disagrees runs
  have changes : ¬ (s.inReset = true ∨ (s.channelOutput c).readback = level) := by simp [outOfReset, differs]
  have supervised : (s.readbackChanges c level).channelOutput c
      = s.toBlocks.superviseOutput c { o with readback := level } :=
    s.channelOutput_setChannelOutput_self c _
  refine ⟨s.setBlocks (s.readbackChanges c level), if_neg changes, ⟨rfl, rfl, rfl⟩, rfl, rfl, ?_, ?_⟩
  · rw [State.setBlocks_toBlocks, supervised]
    rfl
  · generalize after : s.setBlocks (s.readbackChanges c level) = t
    have blocks : t.toBlocks = s.readbackChanges c level := by rw [← after, State.setBlocks_toBlocks]
    have active : t.active = s.active := by simp [blocks]
    have type : t.channelType c = s.channelType c := Blocks.channelType_congr active c
    have entry : t.entry c = s.entry c := Blocks.entry_congr active c
    rw [← blocks, ← Blocks.superviseOutput_congr active] at supervised
    have conditions : MismatchConditions t c ↔ runs := by
      simp [MismatchConditions, supervised, type, entry, runs, disagrees, o]
    have follows := mismatchFollows_of_supervised t c _ supervised
    rw [MismatchFollows, conditions, entry] at follows
    exact follows

end Sys2Proof.Machine
end

section
/-! # The check of a list of entries (02 R21, 08 R129)

The check answers with the index of the first bad entry, and of a list with none bad with the entries under their
channels. -/

namespace Sys2Proof.Machine

theorem channelOf?_val (c : Channel) : channelOf? c.val = some c := dif_pos c.isLt

theorem channelOf?_eq_none {n : Nat} (h : 63 < n) : channelOf? n = none := dif_neg (by omega)

namespace Blocks

section Check

variable {α : Type} {bad : Channel → α → Bool} {seen : List Channel} {entries rest : List (Nat × α)}
  {n i j : Nat} {x : α} {c : Channel}

/-- Entry `j` names a channel above 63, one named in an earlier entry or already `seen`, or one that is `bad` with its
datum. -/
def BadAt (bad : Channel → α → Bool) (seen : List Channel) (entries : List (Nat × α)) (j : Nat) : Prop :=
  ∃ n x, entries[j]? = some (n, x) ∧
    (63 < n ∨ (∃ k y, k < j ∧ entries[k]? = some (n, y)) ∨ ∃ c : Channel, c.val = n ∧ (c ∈ seen ∨ bad c x = true))

theorem badAt_zero_cons : BadAt bad seen ((n, x) :: rest) 0 ↔
    63 < n ∨ ∃ c : Channel, c.val = n ∧ (c ∈ seen ∨ bad c x = true) := by
  constructor
  · rintro ⟨m, y, first, refused⟩
    obtain ⟨rfl, rfl⟩ : n = m ∧ x = y := Prod.mk.inj (Option.some.inj first)
    obtain large | ⟨k, _, before, -⟩ | named := refused
    · exact .inl large
    · exact absurd before k.not_lt_zero
    · exact .inr named
  · exact fun refused => ⟨n, x, rfl, refused.imp_right .inr⟩

/-- In the entries that follow one on channel `c`, that channel counts as named before. -/
theorem badAt_succ_cons : BadAt bad seen ((c.val, x) :: rest) (j + 1) ↔ BadAt bad (c :: seen) rest j := by
  have earlier (n : Nat) : (∃ k y, k < j + 1 ∧ ((c.val, x) :: rest)[k]? = some (n, y)) ↔
      c.val = n ∨ ∃ k y, k < j ∧ rest[k]? = some (n, y) := by
    constructor
    · rintro ⟨k, y, before, named⟩
      cases k with
      | zero => simp_all
      | succ k => exact .inr ⟨k, y, Nat.lt_of_succ_lt_succ before, by simpa using named⟩
    · rintro (rfl | ⟨k, y, before, named⟩)
      · exact ⟨0, x, Nat.zero_lt_succ j, rfl⟩
      · exact ⟨k + 1, y, Nat.succ_lt_succ before, by simpa using named⟩
  simp only [BadAt, List.getElem?_cons_succ, earlier, List.mem_cons]
  refine exists_congr fun n => exists_congr fun y => and_congr_right fun _ => ?_
  constructor
  · rintro (large | (rfl | before) | ⟨d, rfl, named | isBad⟩)
    · exact .inl large
    · exact .inr (.inr ⟨c, rfl, .inl (.inl rfl)⟩)
    · exact .inr (.inl before)
    · exact .inr (.inr ⟨d, rfl, .inl (.inr named)⟩)
    · exact .inr (.inr ⟨d, rfl, .inr isBad⟩)
  · rintro (large | before | ⟨d, rfl, (rfl | named) | isBad⟩)
    · exact .inl large
    · exact .inr (.inl (.inr before))
    · exact .inr (.inl (.inl rfl))
    · exact .inr (.inr ⟨d, rfl, .inl named⟩)
    · exact .inr (.inr ⟨d, rfl, .inr isBad⟩)

/-! ## The check, one entry at a time -/

theorem checkEntries_bad_cons (isBad : BadAt bad seen ((n, x) :: rest) 0) :
    checkEntries bad i seen ((n, x) :: rest) = .inl i := by
  obtain large | ⟨c, rfl, named⟩ := badAt_zero_cons.mp isBad
  · simp only [checkEntries, channelOf?_eq_none large]
  · have refused : (seen.contains c || bad c x) = true := by simpa using named
    simp only [checkEntries, channelOf?_val, refused, if_true]

/-- An entry that is not bad names a channel, which the entries after it find named before. -/
theorem checkEntries_good_cons (good : ¬ BadAt bad seen ((n, x) :: rest) 0) (i : Nat) :
    ∃ c : Channel, c.val = n ∧ c ∉ seen ∧ checkEntries bad i seen ((n, x) :: rest)
      = (checkEntries bad (i + 1) (c :: seen) rest).map id ((c, x) :: ·) := by
  rw [badAt_zero_cons, not_or] at good
  obtain ⟨small, good⟩ := good
  obtain ⟨c, rfl⟩ : ∃ c : Channel, c.val = n := ⟨⟨n, by omega⟩, rfl⟩
  obtain ⟨new, allowed⟩ := not_or.mp fun named => good ⟨c, rfl, named⟩
  have passes : ¬ (seen.contains c || bad c x) = true := by simp [new, allowed]
  refine ⟨c, rfl, new, ?_⟩
  simp only [checkEntries, channelOf?_val, if_neg passes]
  cases checkEntries bad (i + 1) (c :: seen) rest <;> rfl

/-! ## The check of the whole list -/

theorem checkEntries_of_first_bad (isBad : BadAt bad seen entries j) (first : ∀ k, k < j → ¬ BadAt bad seen entries k) :
    checkEntries bad i seen entries = .inl (i + j) := by
  induction entries generalizing i j seen with
  | nil => simp [BadAt] at isBad
  | cons e rest ih =>
    obtain ⟨n, x⟩ := e
    cases j with
    | zero => exact checkEntries_bad_cons isBad
    | succ j =>
      obtain ⟨c, rfl, -, check⟩ := checkEntries_good_cons (first 0 j.succ_pos) i
      have tail := ih (i := i + 1) (badAt_succ_cons.mp isBad) fun k before =>
        mt badAt_succ_cons.mpr (first (k + 1) (Nat.succ_lt_succ before))
      rw [check, tail, Sum.map_inl, id, Nat.add_right_comm, Nat.add_assoc]

/-- A list with no bad entry passes with its entries under their channels, which are different and none of those `seen`. -/
theorem checkEntries_of_none_bad (none_bad : ∀ j, ¬ BadAt bad seen entries j) :
    ∃ good, checkEntries bad i seen entries = .inr good ∧ good.map (Prod.map Fin.val id) = entries ∧
      (good.map Prod.fst).Nodup ∧ ∀ c ∈ good.map Prod.fst, c ∉ seen := by
  induction entries generalizing i seen with
  | nil => exact ⟨[], rfl, rfl, List.nodup_nil, by simp⟩
  | cons e rest ih =>
    obtain ⟨n, x⟩ := e
    obtain ⟨c, rfl, new, check⟩ := checkEntries_good_cons (none_bad 0) i
    obtain ⟨good, tail, same, different, unseen⟩ := ih (i := i + 1) fun j => mt badAt_succ_cons.mpr (none_bad (j + 1))
    refine ⟨(c, x) :: good, by rw [check, tail]; rfl, by rw [List.map_cons, same]; rfl, ?_, ?_⟩
    · exact List.nodup_cons.mpr ⟨fun again => unseen c again List.mem_cons_self, different⟩
    · exact List.forall_mem_cons.mpr ⟨new, fun d listed => mt (List.mem_cons_of_mem c) (unseen d listed)⟩

/-- An entry is listed under its channel exactly when it is listed under the channel's number. -/
theorem mem_numbered {good : List (Channel × α)} : (c.val, x) ∈ good.map (Prod.map Fin.val id) ↔ (c, x) ∈ good := by
  simp [Fin.val_inj]

end Check

end Blocks

end Sys2Proof.Machine
end

section
/-! # VETO (08 R129, R130) -/

namespace Sys2Proof.Machine

namespace Blocks

/-! ## The entries applied -/

/-- Entries on different channels take effect each on its own: SET enters the channel, CLEAR takes it out (08 R130). -/
theorem has_applyVetoes {entries : List (Channel × Bool)} (different : (entries.map Prod.fst).Nodup) (set : ChannelSet)
    (c : Channel) : (applyVetoes set entries).has c =
      (decide ((c, true) ∈ entries) || (set.has c && decide ((c, false) ∉ entries))) := by
  induction entries generalizing set with
  | nil => simp [applyVetoes]
  | cons e rest ih =>
    obtain ⟨d, action⟩ := e
    rw [List.map_cons, List.nodup_cons] at different
    obtain ⟨once, different⟩ := different
    have absent (a : Bool) : (d, a) ∉ rest := fun again => once (List.mem_map.mpr ⟨(d, a), again, rfl⟩)
    cases action with
    | true =>
      rw [applyVetoes, ih different, IndexSet.has_insert]
      by_cases same : c = d <;> simp [same, eq_comm (a := d), absent]
    | false =>
      rw [applyVetoes, ih different, IndexSet.has_erase]
      by_cases same : c = d <;> simp [same, eq_comm (a := d), absent]

/-! ## The outputs after it -/

/-- The drive value by condition (01 R8). -/
theorem driveOf_eq_ite (b : Blocks) (c : Channel) : b.driveOf c =
    if b.channelType c = .unused then ⟨.unused, 0⟩
    else if b.device = .running ∧ b.fault c = .none ∧ ∀ m, (b.output.vetoes.row m).has c = false
    then ⟨b.channelType c, b.agreed c⟩ else ⟨b.channelType c, b.fallback c⟩ := by
  simp only [driveOf, vetoed_eq_false_iff]
  cases b.channelType c <;> rfl

/-- The entries in the lane's veto set, the channels not yet recomputed. -/
def vetoesApplied (b : Blocks) (l : Lane) (entries : List (Channel × Bool)) : Blocks :=
  { b with output := { b.output with
      vetoes := b.output.vetoes.put l (applyVetoes (b.output.vetoes.row l) entries) } }

theorem acceptVeto_eq (b : Blocks) (l : Lane) (entries : List (Channel × Bool)) :
    b.acceptVeto l entries = (b.vetoesApplied l entries).refreshOutputs := rfl

theorem vetoes_acceptVeto (b : Blocks) (l : Lane) (entries : List (Channel × Bool)) :
    (b.acceptVeto l entries).output.vetoes = b.output.vetoes.put l (applyVetoes (b.output.vetoes.row l) entries) := rfl

theorem driveOf_vetoesApplied (b : Blocks) (l : Lane) (entries : List (Channel × Bool)) (c : Channel) :
    (b.vetoesApplied l entries).driveOf c =
      if b.channelType c = .unused then ⟨.unused, 0⟩
      else if b.device = .running ∧ b.fault c = .none ∧
        ∀ m, ((b.acceptVeto l entries).output.vetoes.row m).has c = false
      then ⟨b.channelType c, b.agreed c⟩ else ⟨b.channelType c, b.fallback c⟩ :=
  (b.vetoesApplied l entries).driveOf_eq_ite c

theorem channelOutput_acceptVeto (b : Blocks) (l : Lane) (entries : List (Channel × Bool)) (c : Channel) :
    (b.acceptVeto l entries).channelOutput c = b.superviseOutput c
      ((b.channelOutput c).driveTo ((b.vetoesApplied l entries).driveOf c) (b.entry c).settleTime) := by
  rw [acceptVeto_eq, channelOutput_refreshOutputs, refreshedOutput]
  exact superviseOutput_congr rfl c _

end Blocks

/-- A state whose blocks are those of an accepted VETO: every channel's drive and timers follow (01 R8, R10, 08 R135,
R137). -/
theorem vetoed_follows {t : State} {b : Blocks} {l : Lane} {entries : List (Channel × Bool)}
    (blocks : t.toBlocks = b.acceptVeto l entries) (c : Channel) :
    t.fault c = b.fault c ∧ (t.channelOutput c).readback = (b.channelOutput c).readback ∧
    (t.channelOutput c).drive = (if b.channelType c = .unused then ⟨.unused, 0⟩
      else if b.device = .running ∧ b.fault c = .none ∧ ∀ m, (t.output.vetoes.row m).has c = false
      then ⟨b.channelType c, b.agreed c⟩ else ⟨b.channelType c, b.fallback c⟩) ∧
    (t.channelOutput c).settle = settleAfter (b.channelOutput c).drive (b.channelOutput c).settle
      (t.channelOutput c).drive (b.entry c).settleTime ∧
    MismatchFollows t c (b.channelOutput c).mismatch := by
  have output := b.channelOutput_acceptVeto l entries c
  have drive := b.driveOf_vetoesApplied l entries c
  rw [← blocks] at output drive
  refine ⟨by simp [Blocks.fault, output], by simp [output], by simpa [output] using drive,
    by simp [output, ChannelOutput.driveTo_settle], ?_⟩
  have active : t.active = b.active := by simp [blocks]
  rw [← Blocks.superviseOutput_congr active] at output
  simpa using mismatchFollows_of_supervised t c _ output

/-! ## The answer -/

/-- The device and the lane are in states in which a VETO has its entries checked (08 R129). -/
def MayVeto (b : Blocks) (l : Lane) : Prop :=
  b.device ≠ .lockout ∧ b.device ≠ .unconfigured ∧ b.laneState l ≠ .absent ∧ b.laneState l ≠ .excluded

section Answer

variable {b : Blocks} {staging : Staging} {l : Lane} {p : List Byte} {entries : List (Nat × Bool)}
  (parsed : parseVeto p = some entries)

include parsed

theorem handleVeto_of_lockout (lockout : b.device = .lockout) :
    handleVeto l p b staging = unchanged b staging .lockout [] := by
  simp only [handleVeto, parsed, if_pos lockout]

theorem handleVeto_of_unconfigured (unconfigured : b.device = .unconfigured) :
    handleVeto l p b staging = unchanged b staging .notConfigured [] := by
  simp [handleVeto, parsed, unconfigured]

theorem handleVeto_of_not_voting (live : b.device ≠ .lockout) (configured : b.device ≠ .unconfigured)
    (barred : b.laneState l = .absent ∨ b.laneState l = .excluded) :
    handleVeto l p b staging = unchanged b staging .notVoting [] := by
  simp only [handleVeto, parsed, if_neg live, if_neg configured, if_pos barred]

theorem handleVeto_of_bad (may : MayVeto b l) {i : Nat} (check : Blocks.checkEntries b.badVeto 0 [] entries = .inl i) :
    handleVeto l p b staging = unchanged b staging .badEntry [byte i] := by
  obtain ⟨live, configured, present, included⟩ := may
  simp only [handleVeto, parsed, if_neg live, if_neg configured, if_neg (not_or.mpr ⟨present, included⟩), check]

theorem handleVeto_of_good (may : MayVeto b l) {good : List (Channel × Bool)}
    (check : Blocks.checkEntries b.badVeto 0 [] entries = .inr good) : handleVeto l p b staging
      = unchanged (b.acceptVeto l good) staging .accepted [byte ((b.acceptVeto l good).vetoCount l)] := by
  obtain ⟨live, configured, present, included⟩ := may
  simp only [handleVeto, parsed, if_neg live, if_neg configured, if_neg (not_or.mpr ⟨present, included⟩), check]

end Answer

/-- A bad VETO entry, as the statement gives it (08 R129). -/
theorem badAt_badVeto_iff {b : Blocks} {entries : List (Nat × Bool)} {j : Nat} :
    Blocks.BadAt b.badVeto [] entries j ↔ ∃ n a, entries[j]? = some (n, a) ∧
      (63 < n ∨ (∃ k b, k < j ∧ entries[k]? = some (n, b)) ∨ ∃ c : Channel, c.val = n ∧ b.channelType c = .unused) := by
  simp [Blocks.BadAt, Blocks.badVeto]

/-- Settles O44: the owner's checks in order, and the vetoes and outputs of the blocks that an accepted VETO leaves. -/
theorem vetoIsApplied : Obligations.VetoIsApplied := by
  intro s l q p entries takes parsed refused may bad
  have refuses {o : Outcome} {payload : List Byte}
      (served : handleVeto l p s.toBlocks s.staging = unchanged s.toBlocks s.staging o payload) : refused o payload :=
    ⟨_, rfl, receive_unchanged takes served⟩
  have bad_iff (j : Nat) : Blocks.BadAt s.badVeto [] entries j ↔ bad j := badAt_badVeto_iff
  refine ⟨fun lockout => ?lockout, fun unconfigured => ?unconfigured, fun live configured barred => ?notVoting,
    fun may i isBad first => ?badEntry, fun may none_bad => ?accepted⟩
  case lockout => exact refuses (handleVeto_of_lockout parsed lockout)
  case unconfigured => exact refuses (handleVeto_of_unconfigured parsed unconfigured)
  case notVoting => exact refuses (handleVeto_of_not_voting parsed live configured barred)
  case badEntry =>
    simp only [← bad_iff] at isBad first
    have check : Blocks.checkEntries s.badVeto 0 [] entries = .inl (0 + i) :=
      Blocks.checkEntries_of_first_bad isBad first
    rw [Nat.zero_add] at check
    exact refuses (handleVeto_of_bad parsed may check)
  case accepted =>
    simp only [← bad_iff] at none_bad
    obtain ⟨good, check, numbered, different, -⟩ := Blocks.checkEntries_of_none_bad (i := 0) none_bad
    obtain ⟨outside, blocks, staging, answered⟩ :=
      receive_answered (k := 0x05#8) takes (handleVeto_of_good parsed may check)
    generalize after : s.receive l 0x05#8 q p (handleVeto l p) = t at outside blocks staging answered
    have vetoes : t.output.vetoes
        = s.output.vetoes.put l (Blocks.applyVetoes (s.output.vetoes.row l) good) := by
      rw [blocks, Blocks.vetoes_acceptVeto]
    rw [← blocks] at answered
    refine ⟨t, congrArg Host.Outcome.next after, outside, staging, answered, fun c => ?set, fun m other => ?others,
      by rw [blocks]; rfl, vetoed_follows blocks⟩
    case set =>
      simp only [← numbered, Blocks.mem_numbered, vetoes, Table.row_put_self, Blocks.has_applyVetoes different]
    case others => rw [vetoes, Table.row_put_of_ne _ other.symm]

end Sys2Proof.Machine
end

section
/-! # The notice unit under each of its operations (09 R147 to R156) -/

namespace Sys2Proof.Machine.NoticeUnit

variable {n : NoticeUnit} {l : Lane} {r : Reader}

/-! ## Unread counts (09 R149) -/

theorem unread_of_reader (reader : n.readers.row l = some r) : n.unread l = (n.next - r.cursor).toNat := by
  simp only [unread, reader, unreadOf]

theorem unread_of_not_reader (absent : n.readers.row l = none) : n.unread l = 0 := by
  simp only [unread, absent]

theorem unread_congr {t : NoticeUnit} (next : t.next = n.next) (row : t.readers.row l = n.readers.row l) :
    t.unread l = n.unread l := by
  simp only [unread, unreadOf, next, row]

theorem exists_reader_of_unread (some_unread : 0 < n.unread l) : ∃ r, n.readers.row l = some r := by
  cases row : n.readers.row l with
  | none => rw [unread_of_not_reader row] at some_unread; cases some_unread
  | some r => exact ⟨r, rfl⟩

theorem hasReaders_iff : n.hasReaders = true ↔ ∃ l, n.readers.row l ≠ none := by
  simp [hasReaders, Option.isSome_iff_ne_none]

/-- The reader that lies furthest behind bounds the unread count of every lane (09 R154). -/
theorem maxUnread_le_iff {k : Nat} : n.maxUnread ≤ k ↔ ∀ l, n.unread l ≤ k := by
  have lanes : n.maxUnread = max (max (max (max 0 (n.unread 0)) (n.unread 1)) (n.unread 2)) (n.unread 3) := rfl
  rw [lanes]
  refine ⟨fun bound l => ?_, fun bound => ?_⟩
  · match l with
    | 0 | 1 | 2 | 3 => omega
  · have h0 := bound 0
    have h1 := bound 1
    have h2 := bound 2
    have h3 := bound 3
    omega

theorem unread_le_maxUnread (n : NoticeUnit) (l : Lane) : n.unread l ≤ n.maxUnread :=
  maxUnread_le_iff.mp (Nat.le_refl _) l

theorem exists_unread_eq_maxUnread (n : NoticeUnit) : ∃ l, n.unread l = n.maxUnread := by
  refine Classical.byContradiction fun unmet => ?_
  have below (l : Lane) : n.unread l < n.maxUnread :=
    Nat.lt_of_le_of_ne (n.unread_le_maxUnread l) fun same => unmet ⟨l, same⟩
  have lower : n.maxUnread ≤ n.maxUnread - 1 := maxUnread_le_iff.mpr fun l => Nat.le_sub_one_of_lt (below l)
  have positive := below 0
  omega

/-! ## The laws of the unit -/

/-- Consecutive sequence numbers up to the next one (09 R147). -/
def Numbered (n : NoticeUnit) : Prop :=
  ∀ i e, n.queue[i]? = some e → e.seq = n.next - BitVec.ofNat 16 (n.queue.length - i)

/-- What the notice law says of the notice unit alone. -/
structure Lawful (n : NoticeUnit) : Prop where
  bounded : n.queue.length ≤ 48
  numbered : n.Numbered
  inside : ∀ l, n.unread l ≤ n.queue.length
  held : ∀ l r, n.readers.row l = some r → HoldsTheUnread n
  marked : ∀ l r, n.readers.row l = some r → r.gap = true → 0 < n.unread l

/-- Entries that leave at the front leave the others' numbers consecutive. -/
theorem Numbered.drop (h : n.Numbered) {t : NoticeUnit} {k : Nat} (next : t.next = n.next)
    (queue : t.queue = n.queue.drop k) : t.Numbered := by
  intro i e listed
  rw [queue, List.getElem?_drop] at listed
  rw [next, queue, List.length_drop, Nat.sub_sub]
  exact h (k + i) e listed

/-- An entry at the end takes the next number (09 R152). -/
theorem Numbered.append (h : n.Numbered) (stamp : BitVec 16) (body : NoticeBody) : (n.append stamp body).Numbered := by
  intro i e listed
  simp only [NoticeUnit.append, List.length_append, List.length_singleton] at listed ⊢
  rcases Nat.lt_or_ge i n.queue.length with old | new
  · rw [List.getElem?_append_left old] at listed
    have later : n.queue.length + 1 - i = n.queue.length - i + 1 := by omega
    rw [h i e listed, later]
    bv_omega
  · rw [List.getElem?_append_right new, List.getElem?_singleton] at listed
    split at listed
    · cases listed
      have last : n.queue.length + 1 - i = 1 := by omega
      rw [last]
      bv_omega
    · cases listed

/-- A queue with entries has a reader that has them all unread. -/
theorem exists_reader_furthest (holds : HoldsTheUnread n) (some_left : 0 < n.queue.length) :
    ∃ l r, n.readers.row l = some r ∧ n.unread l = n.queue.length := by
  obtain ⟨-, empty | ⟨l, behind⟩⟩ := holds
  · rw [empty] at some_left
    cases some_left
  · obtain ⟨r, reader⟩ := exists_reader_of_unread (behind ▸ some_left)
    exact ⟨l, r, reader, behind⟩

/-! ## Removal of the entries that every reader has passed (09 R154) -/

@[simp] theorem next_removePassed (n : NoticeUnit) : n.removePassed.next = n.next := by
  unfold removePassed
  split <;> rfl

@[simp] theorem readers_removePassed (n : NoticeUnit) : n.removePassed.readers = n.readers := by
  unfold removePassed
  split <;> rfl

@[simp] theorem unread_removePassed (n : NoticeUnit) (l : Lane) : n.removePassed.unread l = n.unread l :=
  unread_congr n.next_removePassed (by rw [readers_removePassed])

theorem removePassed_of_no_reader (no_reader : ∀ l, n.readers.row l = none) : n.removePassed = n := by
  have absent : ¬ n.hasReaders = true := fun h => by
    obtain ⟨l, reader⟩ := hasReaders_iff.mp h
    exact reader (no_reader l)
  exact if_neg absent

theorem queue_removePassed_of_reader (reader : n.readers.row l ≠ none) :
    n.removePassed.queue = n.queue.drop (n.queue.length - n.maxUnread) := by
  have present : n.hasReaders = true := hasReaders_iff.mpr ⟨l, reader⟩
  rw [removePassed, if_pos present]

theorem exists_queue_removePassed (n : NoticeUnit) : ∃ k, n.removePassed.queue = n.queue.drop k := by
  unfold removePassed
  split
  · exact ⟨_, rfl⟩
  · exact ⟨0, rfl⟩

/-- What some reader has unread is what the removal leaves. -/
theorem holdsTheUnread_removePassed (inside : ∀ l, n.unread l ≤ n.queue.length) (reader : n.readers.row l ≠ none) :
    HoldsTheUnread n.removePassed := by
  have length : n.removePassed.queue.length = n.maxUnread := by
    have within := maxUnread_le_iff.mpr inside
    rw [queue_removePassed_of_reader reader, List.length_drop]
    omega
  obtain ⟨furthest, behind⟩ := n.exists_unread_eq_maxUnread
  refine ⟨fun m => ?_, .inr ⟨furthest, ?_⟩⟩
  · rw [unread_removePassed, length]
    exact n.unread_le_maxUnread m
  · rw [unread_removePassed, length, behind]

/-! ## A reader's record written, and the removal after it (09 R150, R151, R154, R156) -/

/-- The record of a lane's reader written, then the entries that every reader has passed removed. -/
def setReader (n : NoticeUnit) (l : Lane) (x : Option Reader) : NoticeUnit :=
  removePassed { n with readers := n.readers.put l x }

theorem joinReader_eq (n : NoticeUnit) (l : Lane) : n.joinReader l = n.setReader l (some ⟨n.next, false⟩) := rfl

theorem leaveReader_eq (n : NoticeUnit) (l : Lane) : n.leaveReader l = n.setReader l none := rfl

theorem afterFetch_eq (reader : n.readers.row l = some r) (maximum : Nat) : n.afterFetch l maximum
    = n.setReader l (some ⟨r.cursor + BitVec.ofNat 16 (n.fetched l maximum).length, false⟩) := by
  simp only [afterFetch, reader, setReader]

@[simp] theorem readers_setReader (n : NoticeUnit) (l : Lane) (x : Option Reader) :
    (n.setReader l x).readers = n.readers.put l x := readers_removePassed _

@[simp] theorem next_setReader (n : NoticeUnit) (l : Lane) (x : Option Reader) :
    (n.setReader l x).next = n.next := next_removePassed _

theorem exists_queue_setReader (n : NoticeUnit) (l : Lane) (x : Option Reader) :
    ∃ k, (n.setReader l x).queue = n.queue.drop k := exists_queue_removePassed _

/-- The record written holds a cursor no further behind than the oldest entry. -/
def CursorFits (n : NoticeUnit) (x : Option Reader) : Prop := ∀ r, x = some r → n.unreadOf r ≤ n.queue.length

theorem cursorFits_none (n : NoticeUnit) : n.CursorFits none := fun _ absent => nomatch absent

/-- A cursor just past the newest entry has nothing unread (09 R150). -/
theorem cursorFits_next (n : NoticeUnit) (gap : Bool) : n.CursorFits (some ⟨n.next, gap⟩) := by
  rintro r ⟨⟩
  simp [unreadOf]

theorem unread_put_le (inside : ∀ m, n.unread m ≤ n.queue.length) {x : Option Reader} (fits : n.CursorFits x)
    (l m : Lane) : NoticeUnit.unread { n with readers := n.readers.put l x } m ≤ n.queue.length := by
  by_cases same : l = m
  · subst same
    cases x with
    | none => rw [unread_of_not_reader (Table.row_put_self ..)]; exact Nat.zero_le _
    | some r => rw [unread_of_reader (Table.row_put_self ..)]; exact fits r rfl
  · have row := Table.row_put_of_ne n.readers same x
    have unread : NoticeUnit.unread { n with readers := n.readers.put l x } m = n.unread m := unread_congr rfl row
    rw [unread]
    exact inside m

theorem holdsTheUnread_setReader (inside : ∀ m, n.unread m ≤ n.queue.length) {x : Option Reader}
    (fits : n.CursorFits x) {l m : Lane} (reader : (n.setReader l x).readers.row m ≠ none) :
    HoldsTheUnread (n.setReader l x) := by
  rw [readers_setReader] at reader
  exact holdsTheUnread_removePassed (l := m) (unread_put_le inside fits l) reader

theorem Lawful.setReader (h : n.Lawful) {x : Option Reader} (fits : n.CursorFits x)
    (clear : ∀ r, x = some r → r.gap = false) (l : Lane) : (n.setReader l x).Lawful := by
  obtain ⟨k, queue⟩ := n.exists_queue_setReader l x
  have held (m : Lane) (r : Reader) (reader : (n.setReader l x).readers.row m = some r) :
      HoldsTheUnread (n.setReader l x) :=
    holdsTheUnread_setReader h.inside fits (m := m) (by rw [reader]; exact nofun)
  refine ⟨?bounded, h.numbered.drop (by simp) queue, fun m => ?inside, held, fun m r reader gap => ?marked⟩
  case bounded =>
    have bounded := h.bounded
    rw [queue, List.length_drop]
    omega
  case inside =>
    cases reader : (n.setReader l x).readers.row m with
    | none => rw [unread_of_not_reader reader]; exact Nat.zero_le _
    | some r =>
      obtain ⟨inside, -⟩ := held m r reader
      exact inside m
  case marked =>
    rw [readers_setReader, Table.row_put] at reader
    split at reader
    · rw [clear r reader] at gap
      cases gap
    · rename_i other
      have row : (n.setReader l x).readers.row m = n.readers.row m := by
        rw [readers_setReader, Table.row_put_of_ne _ other]
      rw [unread_congr (next_setReader n l x) row]
      exact h.marked m r reader gap

theorem Lawful.joinReader (h : n.Lawful) (l : Lane) : (n.joinReader l).Lawful :=
  h.setReader (n.cursorFits_next false) (fun _ joined => by cases joined; rfl) l

theorem Lawful.leaveReader (h : n.Lawful) (l : Lane) : (n.leaveReader l).Lawful :=
  h.setReader n.cursorFits_none (fun _ absent => nomatch absent) l

/-! ## A posting (09 R152, R153) -/

/-- The record of a reader when an entry leaves a full queue: from that entry its cursor moves to the next one. -/
def overtaken (left nowOldest : BitVec 16) (r : Reader) : Reader :=
  if r.cursor = left then ⟨nowOldest, true⟩ else r

theorem post_of_room (room : n.queue.length < 48) (stamp : BitVec 16) (body : NoticeBody) :
    n.post stamp body = n.append stamp body := if_pos room

theorem post_of_full {oldest second : Notice} {rest : List Notice} (queue : n.queue = oldest :: second :: rest)
    (full : 48 ≤ n.queue.length) (stamp : BitVec 16) (body : NoticeBody) : n.post stamp body =
      { queue := second :: rest ++ [⟨n.next, stamp, body⟩], next := n.next + 1,
        readers := n.readers.mapRows (Option.map (overtaken oldest.seq second.seq)) } := by
  have noRoom : ¬ n.queue.length < noticeDepth := Nat.not_lt.mpr full
  rw [post, if_neg noRoom]
  simp only [overflow, queue, append]
  rfl

/-- A queue that is full has two oldest entries. -/
theorem exists_oldest_of_full (full : 48 ≤ n.queue.length) :
    ∃ oldest second rest, n.queue = oldest :: second :: rest := by
  match queue : n.queue with
  | [] => simp [queue] at full
  | [_] => simp [queue] at full
  | oldest :: second :: rest => exact ⟨oldest, second, rest, rfl⟩

/-- A posting makes no lane a reader and no reader another lane. -/
theorem isSome_row_post (n : NoticeUnit) (stamp : BitVec 16) (body : NoticeBody) (l : Lane) :
    ((n.post stamp body).readers.row l).isSome = (n.readers.row l).isSome := by
  rcases Nat.lt_or_ge n.queue.length 48 with room | full
  · rw [post_of_room room]
    rfl
  · obtain ⟨oldest, second, rest, queue⟩ := exists_oldest_of_full full
    rw [post_of_full queue full]
    simp

theorem exists_reader_of_post {stamp : BitVec 16} {body : NoticeBody}
    (reader : (n.post stamp body).readers.row l = some r) : ∃ before, n.readers.row l = some before :=
  Option.isSome_iff_exists.mp (by rw [← n.isSome_row_post stamp body, reader]; rfl)

theorem length_post (bounded : n.queue.length ≤ 48) (stamp : BitVec 16) (body : NoticeBody) :
    (n.post stamp body).queue.length = min (n.queue.length + 1) 48 := by
  rcases Nat.lt_or_ge n.queue.length 48 with room | full
  · rw [post_of_room room, length_append]
    omega
  · obtain ⟨oldest, second, rest, queue⟩ := exists_oldest_of_full full
    rw [post_of_full queue full]
    simp only [queue, List.length_cons, List.length_append, List.length_nil] at bounded full ⊢
    omega

theorem Numbered.post (h : n.Numbered) (stamp : BitVec 16) (body : NoticeBody) : (n.post stamp body).Numbered := by
  rcases Nat.lt_or_ge n.queue.length 48 with room | full
  · rw [post_of_room room]
    exact h.append stamp body
  · obtain ⟨oldest, second, rest, queue⟩ := exists_oldest_of_full full
    have left : Numbered { n with queue := second :: rest } := h.drop (k := 1) rfl (by rw [queue]; rfl)
    rw [post_of_full queue full]
    exact left.append stamp body

/-- A posting adds one to a reader's unread entries; in a full queue a reader that has all 48 unread loses the oldest. -/
theorem Lawful.unread_post (h : n.Lawful) (reader : n.readers.row l = some r) (stamp : BitVec 16) (body : NoticeBody) :
    (n.post stamp body).unread l = min (n.unread l + 1) 48 := by
  have bounded := h.bounded
  have inside := h.inside l
  rw [unread_of_reader reader] at inside ⊢
  rcases Nat.lt_or_ge n.queue.length 48 with room | full
  · have row : (n.post stamp body).readers.row l = some r := by rw [post_of_room room]; exact reader
    rw [unread_of_reader row, next_post]
    bv_omega
  · obtain ⟨oldest, second, rest, queue⟩ := exists_oldest_of_full full
    have length : n.queue.length = 48 := Nat.le_antisymm bounded full
    have first := h.numbered 0 oldest (by rw [queue]; rfl)
    have next := h.numbered 1 second (by rw [queue]; rfl)
    rw [length] at first next inside
    have row : (n.post stamp body).readers.row l = some (overtaken oldest.seq second.seq r) := by
      rw [post_of_full queue full]
      simp [reader]
    rw [unread_of_reader row, next_post, overtaken, first, next]
    split <;> bv_omega

theorem Lawful.post (h : n.Lawful) (stamp : BitVec 16) (body : NoticeBody) : (n.post stamp body).Lawful := by
  have length := length_post h.bounded stamp body
  have inside (l : Lane) : (n.post stamp body).unread l ≤ (n.post stamp body).queue.length := by
    cases row : (n.post stamp body).readers.row l with
    | none => rw [unread_of_not_reader row]; exact Nat.zero_le _
    | some r =>
      obtain ⟨before, reader⟩ := exists_reader_of_post row
      have inside := h.inside l
      rw [h.unread_post reader, length]
      omega
  refine ⟨length ▸ Nat.min_le_right _ _, h.numbered.post stamp body, inside, fun l r row => ⟨inside, .inr ?held⟩,
    fun l r row _ => ?marked⟩
  case held =>
    obtain ⟨before, reader⟩ := exists_reader_of_post row
    rcases Nat.eq_zero_or_pos n.queue.length with empty | some_left
    · have none_unread := h.inside l
      exact ⟨l, by rw [h.unread_post reader, length]; omega⟩
    · obtain ⟨furthest, last, last_reader, behind⟩ := exists_reader_furthest (h.held l before reader) some_left
      exact ⟨furthest, by rw [h.unread_post last_reader, length, behind]⟩
  case marked =>
    obtain ⟨before, reader⟩ := exists_reader_of_post row
    rw [h.unread_post reader]
    omega

end Sys2Proof.Machine.NoticeUnit
end

section
/-! # The notice law (09 R147 to R156)

The notice unit changes by postings, by a lane that joins or leaves its readers, and by a fetch. A lane becomes a reader, or
ceases to be one, in the event in which it leaves or enters ABSENT, and in no other. -/

namespace Sys2Proof.Machine

/-- The notice law of the blocks: the unit is lawful, and its readers are the lanes that are not ABSENT (09 R149). -/
structure Noticed (b : Blocks) : Prop where
  lawful : b.notices.Lawful
  readers : ∀ l, (b.notices.readers.row l).isSome = true ↔ b.laneState l ≠ .absent

theorem noticeLaw_iff (s : State) : NoticeLaw s ↔ Noticed s.toBlocks := by
  constructor
  · rintro ⟨bounded, numbered, inside, readers, held⟩
    refine ⟨⟨bounded, numbered, inside, fun l r reader => ?_, fun l r reader => ?_⟩, readers⟩
    · obtain ⟨holds, -⟩ := held l r reader
      exact holds
    · obtain ⟨-, marked⟩ := held l r reader
      exact marked
  · rintro ⟨law, readers⟩
    exact ⟨law.bounded, law.numbered, law.inside, readers,
      fun l r reader => ⟨law.held l r reader, law.marked l r reader⟩⟩

namespace Noticed

variable {b d : Blocks}

theorem congr (h : Noticed b) (notices : d.notices = b.notices) (states : ∀ l, d.laneState l = b.laneState l) :
    Noticed d :=
  ⟨notices ▸ h.lawful, fun l => by rw [notices, states]; exact h.readers l⟩

/-- Notice unit and lane records stand. -/
theorem same (h : Noticed b) (kept : d.notices = b.notices ∧ d.lanes = b.lanes) : Noticed d := by
  obtain ⟨notices, lanes⟩ := kept
  exact h.congr notices (Blocks.laneState_congr lanes)

/-- A lane record written that leaves the lane in its state. -/
theorem setLane (h : Noticed b) {l : Lane} {r : LaneRecord} (state : r.state = b.laneState l) :
    Noticed (b.setLane l r) := by
  refine h.congr (by simp) fun m => ?_
  rw [Blocks.laneState_setLane]
  split
  · rename_i same
    rw [state, same]
  · rfl

/-! ## Postings (09 R152) -/

theorem post (h : Noticed b) (body : NoticeBody) : Noticed (b.post body) :=
  ⟨h.lawful.post _ body, fun l => by
    rw [show ((b.post body).notices.readers.row l).isSome = _ from NoticeUnit.isSome_row_post ..]
    exact h.readers l⟩

theorem postAll (h : Noticed b) (bodies : List NoticeBody) : Noticed (b.postAll bodies) :=
  List.foldlRecOn _ _ h fun _ noticed body _ => noticed.post body

theorem removeSupporter (h : Noticed b) (l : Lane) (concerned : Ballot → Bool) :
    Noticed (b.removeSupporter l concerned) := by
  refine postAll ?_ _
  exact h.same ⟨rfl, rfl⟩

theorem discardBallots (h : Noticed b) : Noticed b.discardBallots := by
  refine postAll ?_ _
  exact h.same ⟨rfl, rfl⟩

/-! ## The output stage (08 R136 to R143) -/

theorem failChannel (h : Noticed b) (c : Channel) : Noticed (b.failChannel c) := by
  unfold Blocks.failChannel
  simp only
  split
  · exact post (h.same (by simp)) _
  · have posted := post (h.same (d := (b.setFault c .unsafeState).refreshChannel c) (by simp))
    exact (posted _).same ⟨rfl, rfl⟩
  · exact h

theorem settleExpires (h : Noticed b) (c : Channel) : Noticed (b.settleExpires c) := by
  unfold Blocks.settleExpires
  simp only
  split
  · exact failChannel (h.same (by simp)) c
  · exact h.same (by simp)

theorem mismatchExpires (h : Noticed b) (c : Channel) : Noticed (b.mismatchExpires c) :=
  failChannel (h.same (by simp)) c

theorem clearFault (h : Noticed b) (c : Channel) : Noticed (b.clearFault c) := by
  have cleared : Noticed (b.setFault c .none) := h.same (by simp)
  exact (cleared.post (.faultCleared c (b.fault c))).same (by simp [Blocks.clearFault])

theorem timersLater (h : Noticed b) : Noticed b.timersLater :=
  h.congr rfl (keepsStanding_timersLater b).laneState

/-! ## Lanes (04 R65 to R74) -/

/-- Where a lane enters or leaves ABSENT, its reader does (04 R73 step 2, 09 R150, R151). -/
theorem readerStep (h : Noticed b) {l : Lane} {new : LaneState} (notices : d.notices = b.notices)
    (states : ∀ m, d.laneState m = if l = m then new else b.laneState m) :
    Noticed (d.readerStep l (b.laneState l) new) := by
  have written (x : Option Reader) (m : Lane) (same : x.isSome = true ↔ new ≠ .absent) :
      ((b.notices.setReader l x).readers.row m).isSome = true ↔ d.laneState m ≠ .absent := by
    rw [NoticeUnit.readers_setReader, Table.row_put, states]
    split
    · exact same
    · exact h.readers m
  unfold Blocks.readerStep
  rw [notices]
  split
  · rename_i leaves
    exact ⟨h.lawful.leaveReader l, fun m => written none m (by simpa using leaves)⟩
  rename_i present
  split
  · exact ⟨h.lawful.joinReader l, fun m => written (some _) m (by simpa using present)⟩
  · rename_i before
    refine ⟨notices ▸ h.lawful, fun m => ?_⟩
    rw [notices, h.readers m, states]
    split
    · rename_i same
      subst same
      simp_all
    · rfl

theorem moveLane (h : Noticed b) (l : Lane) (r : LaneRecord) (cause : MemberCause) (recompute : Bool) :
    Noticed (b.moveLane l r cause recompute) := by
  have states (m : Lane) : ((b.setLane l r).vetoStep l r.state recompute).laneState m
      = if l = m then r.state else b.laneState m := by
    rw [Blocks.laneState_congr (b := _) (d := b.setLane l r) (by simp), Blocks.laneState_setLane]
  have read : Noticed (((b.setLane l r).vetoStep l r.state recompute).readerStep l (b.laneState l) r.state) :=
    h.readerStep (by simp) states
  have posted := read.post (.memberChange l (b.laneState l) r.state cause)
  simp only [Blocks.moveLane, Blocks.supporterStep]
  split
  · exact posted.removeSupporter ..
  · exact posted

theorem admitLane (h : Noticed b) (l : Lane) : Noticed (b.admitLane l) := by
  unfold Blocks.admitLane
  split
  · exact h.moveLane ..
  · exact h

theorem admitReady (h : Noticed b) : Noticed b.admitReady :=
  List.foldlRecOn _ _ h fun _ moved l _ => moved.admitLane l

theorem excludeAtThreshold (h : Noticed b) (l : Lane) : Noticed (b.excludeAtThreshold l) := by
  unfold Blocks.excludeAtThreshold
  split
  · exact h.moveLane ..
  · exact h

theorem applyReport (h : Noticed b) (report : List (Lane × Bool)) : Noticed (b.applyReport report) := by
  have struck : Noticed (report.foldl Blocks.applyStrike b) :=
    List.foldlRecOn _ _ h fun _ noticed _ _ => noticed.setLane rfl
  exact admitReady (List.foldlRecOn _ _ struck fun _ moved l _ => moved.excludeAtThreshold l)

theorem switchLane (h : Noticed b) (l : Lane) : Noticed (b.switchLane l) := by
  unfold Blocks.switchLane
  simp only
  split
  · exact h
  split
  · exact h.moveLane ..
  split
  · exact h.moveLane ..
  · exact h

theorem switchLanes (h : Noticed b) : Noticed b.switchLanes := by
  have moved : Noticed ((List.finRange 4).foldl Blocks.switchLane b) :=
    List.foldlRecOn _ _ h fun _ noticed l _ => noticed.switchLane l
  unfold Blocks.switchLanes
  generalize (List.finRange 4).foldl Blocks.switchLane b = d at moved ⊢
  refine moved.congr rfl fun l => ?_
  simp only [Blocks.laneState, Table.row_mapRows]

/-! ## The device state and the switch (05 R80 to R87, 07 R124) -/

theorem switchTo (h : Noticed b) (p : PendingRecord) : Noticed (b.switchTo p) := by
  have installed : Noticed (b.switchedInputs p) := h.same ⟨rfl, rfl⟩
  rw [Blocks.switchTo_eq]
  have posted := installed.post (.configSwitched (b.active.map ActiveConfig.digest) p.digest)
  exact posted.discardBallots.switchLanes.same (by simp)

theorem carryOutPending (h : Noticed b) : Noticed b.carryOutPending := by
  unfold Blocks.carryOutPending
  split
  · exact h.switchTo _
  · exact h

theorem enterRunning (h : Noticed b) : Noticed b.enterRunning := by
  have restarted : Noticed ({ b with device := .running } : Blocks).restartVotingLeases := by
    refine h.congr rfl fun l => ?_
    simp only [Blocks.restartVotingLeases, Blocks.laneState, Table.row_mapRows]
    split <;> rfl
  refine post ?_ _
  exact restarted.same ⟨rfl, rfl⟩

theorem resume (h : Noticed b) : Noticed b.resume := by
  refine post ?_ _
  exact h.same ⟨rfl, rfl⟩

theorem safeHoldSteps (h : Noticed b) : Noticed b.safeHoldSteps := by
  rw [Blocks.safeHoldSteps_eq]
  exact (post (h.same (by simp [Blocks.safeHoldInputs])) _).admitReady

theorem enterLockout (h : Noticed b) (cause : LockoutCause) : Noticed (b.enterLockout cause) := by
  have posted (body : NoticeBody) := post (h.same (d := ({ b with
    lockoutRecord := some ⟨cause, b.vote.nextRound, b.device⟩, device := .lockout, pendingRecord := none }
      : Blocks).abandonRound) ⟨rfl, rfl⟩) body
  exact (posted _).discardBallots.same ⟨rfl, rfl⟩

theorem reportCount (h : Noticed b) : Noticed b.reportCount := by
  unfold Blocks.reportCount
  split
  · split
    · exact h.enterRunning
    · exact h
  · split
    · exact h
    · exact h.safeHoldSteps.carryOutPending
  all_goals exact h

theorem switchAtClose (h : Noticed b) : Noticed b.switchAtClose := by
  unfold Blocks.switchAtClose
  split
  · split
    · exact h.switchTo _
    · exact (h.switchTo _).safeHoldSteps
  · exact h

theorem firstSwitch (h : Noticed b) : Noticed b.firstSwitch := by
  have gathering : Noticed { b.carryOutPending with device := .gathering } := h.carryOutPending.same ⟨rfl, rfl⟩
  exact (gathering.post _).admitReady.reportCount

/-! ## The round (02 R19 to R27) -/

theorem closeRound (h : Noticed b) (evalB : Option Evaluation) : Noticed (b.closeRound evalB) := by
  unfold Blocks.closeRound
  split
  · have committed : Noticed (b.commitRound b.evaluate) := by
      refine postAll ?_ _
      exact h.same ⟨rfl, rfl⟩
    exact (committed.applyReport _).reportCount.switchAtClose
  · exact h.enterLockout _

theorem retest (h : Noticed b) (evalB : Option Evaluation) : Noticed (b.retest evalB) := by
  unfold Blocks.retest
  split
  · exact h.closeRound evalB
  · exact h

theorem closeIfComplete (h : Noticed b) (evalB : Option Evaluation) : Noticed (b.closeIfComplete evalB) := by
  unfold Blocks.closeIfComplete
  split
  · exact h.closeRound evalB
  · exact h

/-- The blocks change only when a proposal is stored, behind all refusals (02 R19). -/
theorem propose (h : Noticed b) (l : Lane) (round : BitVec 16) (entries : List (Nat × Nat))
    (evalB : Option Evaluation) : Noticed (b.propose l round entries evalB).1 := by
  have stored (good : List (Channel × Nat)) : Noticed ((b.storeProposal l good).closeIfComplete evalB) :=
    closeIfComplete (h.same (by simp)) evalB
  unfold Blocks.propose
  iterate 7
    split
    · exact h
  split
  · exact h
  · exact stored _

/-! ## Lane events outside a close (04 R56 to R71) -/

theorem laneEvent (h : Noticed b) (l : Lane) (r : LaneRecord) (cause : MemberCause) (evalB : Option Evaluation) :
    Noticed (b.laneEvent l r cause evalB) := by
  have moved := h.moveLane l r cause true
  unfold Blocks.laneEvent
  simp only
  split
  · exact (moved.retest evalB).reportCount
  · exact moved

theorem admitOutsideRunning (h : Noticed b) (l : Lane) : Noticed (b.admitOutsideRunning l) := by
  unfold Blocks.admitOutsideRunning
  split
  · exact (h.admitLane l).reportCount
  · exact (h.admitLane l).reportCount
  all_goals exact h

theorem join (h : Noticed b) (l : Lane) (digest : Digest) : Noticed (b.join l digest).1 := by
  unfold Blocks.join
  split
  · exact h
  · exact h.moveLane ..
  · split
    · exact h
    split
    · exact h
    · exact (h.moveLane ..).admitOutsideRunning l
  iterate 4 exact h
  · exact h.setLane rfl

theorem leave (h : Noticed b) (l : Lane) (evalB : Option Evaluation) : Noticed (b.leave l evalB).1 := by
  unfold Blocks.leave
  split
  iterate 3 exact h
  all_goals exact h.laneEvent ..

theorem renew (h : Noticed b) (l : Lane) : Noticed (b.renew l) := by
  unfold Blocks.renew
  split
  iterate 4 exact h
  · exact h.setLane rfl
  · exact h.setLane rfl
  · split
    · exact h.setLane rfl
    · refine admitOutsideRunning ?_ l
      exact h.setLane rfl

theorem readmit (h : Noticed b) (l : Lane) : Noticed (b.readmit l) :=
  (h.moveLane ..).admitOutsideRunning l

theorem leaseExpires (h : Noticed b) (l : Lane) (evalB : Option Evaluation) : Noticed (b.leaseExpires l evalB) := by
  unfold Blocks.leaseExpires
  simp only
  split
  · exact h.laneEvent ..
  · exact h.laneEvent ..
  · split
    · exact h.setLane rfl
    · exact h
  all_goals exact h

theorem graceExpires (h : Noticed b) (l : Lane) : Noticed (b.graceExpires l) := by
  unfold Blocks.graceExpires
  simp only
  split
  · exact h.laneEvent ..
  · exact h

/-! ## SUPPORT (06 R96 to R104) -/

theorem commitConfig (h : Noticed b) (image : Memory) (d : Digest) : Noticed (b.commitConfig image d) := by
  have pending : Noticed { b with pendingRecord := some ⟨image, d⟩ } := h.same ⟨rfl, rfl⟩
  unfold Blocks.commitConfig
  simp only
  split
  · exact pending.firstSwitch
  · exact pending.carryOutPending
  all_goals exact pending

theorem carryOut (h : Noticed b) (staging : Staging) (supporters : LaneSet) (action : BallotAction) :
    Noticed (b.carryOut staging supporters action) := by
  cases action with
  | clearFault c => exact h.clearFault c
  | readmit l => exact h.readmit l
  | resume => exact h.resume
  | commitConfig d =>
    simp only [Blocks.carryOut]
    split
    · exact h.commitConfig ..
    · exact h

theorem addSupport (h : Noticed b) (staging : Staging) (l : Lane) (x : Ballot) :
    Noticed (b.addSupport staging l x).1 := by
  have removed : Noticed (b.removeBallot x.slot) := h.same ⟨rfl, rfl⟩
  unfold Blocks.addSupport
  simp only
  split
  · exact (removed.post _).carryOut ..
  · exact h.same ⟨rfl, rfl⟩

theorem support (h : Noticed b) (staging : Staging) (l : Lane) (action : BallotAction) :
    Noticed (b.support staging l action).1 := by
  unfold Blocks.support
  iterate 3
    split
    · exact h
  unfold Blocks.supportTable
  split
  · split
    · exact h
    · exact h.addSupport ..
  · exact h.same ⟨rfl, rfl⟩
  · exact h

end Noticed

/-! ## FETCH_NOTICES (09 R156) -/

namespace NoticeUnit

/-- Entries are taken whole from the front: `k` of them, as many as the maximum, their number and the room allow. -/
theorem takeFitting_spec (maximum room : Nat) (entries : List Notice) : ∃ k,
    takeFitting maximum room entries = entries.take k ∧ k ≤ maximum ∧ k ≤ entries.length ∧
    ((entries.take k).flatMap Notice.bytes).length ≤ room ∧
    (k = maximum ∨ k = entries.length ∨ room < ((entries.take (k + 1)).flatMap Notice.bytes).length) := by
  induction entries generalizing maximum room with
  | nil => exact ⟨0, by cases maximum <;> rfl, by simp⟩
  | cons e rest ih =>
    cases maximum with
    | zero => exact ⟨0, rfl, by simp⟩
    | succ maximum =>
      by_cases fits : e.bytes.length ≤ room
      · obtain ⟨k, taken, atMost, listed, within, stops⟩ := ih maximum (room - e.bytes.length)
        refine ⟨k + 1, by simp [takeFitting, fits, taken], ?_⟩
        simp only [List.take_succ_cons, List.flatMap_cons, List.length_append, List.length_cons]
        omega
      · refine ⟨0, by simp [takeFitting, fits], ?_⟩
        simp only [List.take_succ_cons, List.take_zero, List.flatMap_cons, List.flatMap_nil, List.append_nil,
          List.length_nil]
        omega

variable {n : NoticeUnit} {l : Lane} {r : Reader}

theorem length_unreadEntries (inside : n.unread l ≤ n.queue.length) : (n.unreadEntries l).length = n.unread l := by
  rw [unreadEntries, List.length_drop]
  omega

theorem length_fetched_le (inside : n.unread l ≤ n.queue.length) (maximum : Nat) :
    (n.fetched l maximum).length ≤ n.unread l := by
  obtain ⟨k, taken, -⟩ := takeFitting_spec maximum fetchRoom (n.unreadEntries l)
  rw [fetched, taken, List.length_take, length_unreadEntries inside]
  exact Nat.min_le_right ..

/-- A cursor that moves past `k` unread entries leaves that many fewer unread. -/
theorem unreadOf_advanced (reader : n.readers.row l = some r) {k : Nat} (unread : k ≤ n.unread l) (gap : Bool) :
    n.unreadOf ⟨r.cursor + BitVec.ofNat 16 k, gap⟩ = n.unread l - k := by
  rw [unread_of_reader reader] at unread ⊢
  simp only [unreadOf]
  bv_omega

theorem cursorFits_advanced (reader : n.readers.row l = some r) (inside : n.unread l ≤ n.queue.length) {k : Nat}
    (unread : k ≤ n.unread l) (gap : Bool) : n.CursorFits (some ⟨r.cursor + BitVec.ofNat 16 k, gap⟩) := by
  rintro _ ⟨⟩
  rw [unreadOf_advanced reader unread]
  omega

theorem Lawful.afterFetch (h : n.Lawful) (l : Lane) (maximum : Nat) : (n.afterFetch l maximum).Lawful := by
  cases reader : n.readers.row l with
  | none => simpa only [NoticeUnit.afterFetch, reader] using h
  | some r =>
    rw [afterFetch_eq reader]
    have inside := h.inside l
    exact h.setReader (cursorFits_advanced reader inside (length_fetched_le inside maximum) false)
      (fun _ written => by cases written; rfl) l

theorem isSome_row_afterFetch (n : NoticeUnit) (l m : Lane) (maximum : Nat) :
    ((n.afterFetch l maximum).readers.row m).isSome = (n.readers.row m).isSome := by
  cases reader : n.readers.row l with
  | none => simp only [NoticeUnit.afterFetch, reader]
  | some r =>
    rw [afterFetch_eq reader, readers_setReader, Table.row_put]
    split
    · rename_i same
      rw [← same, reader]
      rfl
    · rfl

end NoticeUnit

theorem Noticed.afterFetch {b : Blocks} (h : Noticed b) (l : Lane) (maximum : Nat) :
    Noticed { b with notices := b.notices.afterFetch l maximum } :=
  ⟨h.lawful.afterFetch l maximum, fun m => by
    rw [NoticeUnit.isSome_row_afterFetch]
    exact h.readers m⟩

/-! ## Events -/

/-- Every request keeps the notice law. -/
theorem Noticed.handled {b : Blocks} (h : Noticed b) (staging : Staging) (l : Lane) (kind : Byte)
    (payload : List Byte) (evalB : Option Evaluation) : Noticed (handlerOf l kind payload evalB b staging).blocks := by
  generalize taken : handlerOf l kind payload evalB = handle
  unfold handlerOf at taken
  split at taken <;> subst taken
  · unfold handleJoin
    split
    · exact h.renew l
    · exact (h.join ..).renew l
  · unfold handleLeave
    split
    · exact h
    · exact h.leave ..
  · unfold handleKeepalive
    split
    · exact h.renew l
    · exact h.renew l
  · unfold handlePropose
    split
    · exact h.renew l
    · exact (h.propose ..).renew l
  · unfold handleVeto
    split
    · exact h
    iterate 4
      split
      · exact h
    exact h.same ⟨rfl, rfl⟩
  · unfold handleSupport
    split
    · exact h
    · rw [blocks_served]
      exact h.support ..
  · rwa [blocks_handleStageWrite]
  · rwa [blocks_handleStageSeal]
  · unfold handleStageOpen
    split
    · exact h
    split
    · exact h
    split
    · exact h
    · exact h
    · rw [blocks_unchanged]
      split
      · exact h.removeSupporter ..
      · exact h
  · rwa [blocks_handleReadStaging]
  · unfold handleFetchNotices
    split
    · exact h
    split
    · exact h
    · exact h.afterFetch ..
  · rwa [blocks_handleReadStatus]
  · rwa [blocks_handleReadChannels]
  · rwa [blocks_handleReadBallots]
  · rwa [blocks_handleUnknown]

/-- Every expiry keeps the notice law. -/
theorem Noticed.expired {s : State} (h : Noticed s.toBlocks) (n : TimerName) (evalB : Option Evaluation) :
    Noticed (s.expire evalB n).toBlocks := by
  cases n with
  | deadline => exact h.closeRound evalB
  | lease l => exact h.leaseExpires l evalB
  | grace l => exact h.graceExpires l
  | lifetime slot =>
    simp only [State.expire]
    split
    · refine post ?_ _
      exact h.same ⟨rfl, rfl⟩
    · exact h
  | sealing l => exact h
  | settle c => exact h.settleExpires c
  | mismatch c => exact h.mismatchExpires c

theorem noticed_reset (record : Option LockoutRecord) : Noticed { Blocks.reset with lockoutRecord := record } := by
  have reset : Noticed Blocks.reset := (noticeLaw_iff State.reset).mp noticeLaw_reset
  exact reset.same ⟨rfl, rfl⟩

/-- Settles O10: every event of the blocks keeps the notice law. -/
theorem noticeLawKept : Obligations.NoticeLawKept := by
  intro s t law next
  have h : Noticed s.toBlocks := (noticeLaw_iff s).mp law
  refine (noticeLaw_iff t).mpr ?_
  have event := step_blocksEvent next
  generalize t.toBlocks = after at event ⊢
  cases event with
  | unchanged => exact h
  | reset record => exact noticed_reset record
  | handled l kind payload evalB => exact h.handled ..
  | expired n evalB _ => exact h.expired n evalB
  | readback c level => exact h.same ⟨rfl, rfl⟩
  | storeCheck _ => exact h.enterLockout _
  | later => exact h.timersLater

end Sys2Proof.Machine
end

section
/-! # FETCH_NOTICES, posting, readers and the bytes of an entry (09 R150 to R157, 11 R183) -/

namespace Sys2Proof.Machine

namespace NoticeUnit

variable {n : NoticeUnit} {l : Lane} {r : Reader}

/-! ## The entries a fetch takes (09 R156) -/

/-- The entries taken are the oldest unread ones, as many as maximum, unread count and room allow. -/
theorem fetched_spec (inside : n.unread l ≤ n.queue.length) (maximum : Nat) : ∃ k,
    n.fetched l maximum = (n.unreadEntries l).take k ∧ (n.fetched l maximum).length = k ∧ k ≤ maximum ∧
    k ≤ n.unread l ∧ (((n.unreadEntries l).take k).flatMap Notice.bytes).length ≤ 254 ∧
    (k = maximum ∨ k = n.unread l ∨ 254 < (((n.unreadEntries l).take (k + 1)).flatMap Notice.bytes).length) := by
  obtain ⟨k, taken, atMost, listed, within, stops⟩ := takeFitting_spec maximum fetchRoom (n.unreadEntries l)
  have length : (n.fetched l maximum).length = k := by
    rw [fetched, taken, List.length_take]
    exact Nat.min_eq_left listed
  rw [length_unreadEntries inside] at listed stops
  exact ⟨k, taken, length, atMost, listed, within, stops⟩

/-! ## What a change of one reader leaves (09 R150, R151, R154) -/

/-- Sequence number and the other readers stand; then, while there is a reader, the entries that every reader has passed
have left at the front. -/
def TrimmedBeside (n : NoticeUnit) (l : Lane) (t : NoticeUnit) : Prop :=
  t.next = n.next ∧ (∀ m, m ≠ l → t.readers.row m = n.readers.row m) ∧ (∃ gone, n.queue = gone ++ t.queue) ∧
    ((∀ m, t.readers.row m = none) → t.queue = n.queue) ∧ ((∃ m, t.readers.row m ≠ none) → HoldsTheUnread t)

theorem trimmedBeside_setReader (inside : ∀ m, n.unread m ≤ n.queue.length) {x : Option Reader}
    (fits : n.CursorFits x) (l : Lane) : n.TrimmedBeside l (n.setReader l x) := by
  refine ⟨next_setReader n l x, fun m other => ?others, ?gone, fun no_reader => ?stands,
    fun ⟨_, reader⟩ => holdsTheUnread_setReader inside fits reader⟩
  case others => rw [readers_setReader, Table.row_put_of_ne _ other.symm]
  case gone =>
    obtain ⟨k, queue⟩ := n.exists_queue_setReader l x
    exact ⟨n.queue.take k, by rw [queue, List.take_append_drop]⟩
  case stands =>
    rw [readers_setReader] at no_reader
    rw [setReader, removePassed_of_no_reader no_reader]

/-! ## A posting (09 R152, R153) -/

theorem post_follows (n : NoticeUnit) (stamp : BitVec 16) (body : NoticeBody) :
    (n.post stamp body).next = n.next + 1 ∧
    (n.queue.length < 48 →
      (n.post stamp body).queue = n.queue ++ [⟨n.next, stamp, body⟩] ∧ (n.post stamp body).readers = n.readers) ∧
    ∀ oldest second rest, n.queue = oldest :: second :: rest → 48 ≤ n.queue.length →
      (n.post stamp body).queue = second :: rest ++ [⟨n.next, stamp, body⟩] ∧
      ∀ l, (n.readers.row l = none → (n.post stamp body).readers.row l = none) ∧
        ∀ r, n.readers.row l = some r → (n.post stamp body).readers.row l
          = some (if r.cursor = oldest.seq then ⟨second.seq, true⟩ else r) := by
  refine ⟨n.next_post stamp body, fun room => ?room, fun oldest second rest queue full => ?full⟩
  case room =>
    rw [post_of_room room]
    exact ⟨rfl, rfl⟩
  case full =>
    rw [post_of_full queue full]
    refine ⟨rfl, fun l => ⟨fun absent => ?_, fun r reader => ?_⟩⟩
    · simp [absent]
    · simp [reader, overtaken]

end NoticeUnit

/-! ## The answer to FETCH_NOTICES (09 R155 to R157) -/

section Fetch

variable {s : State} {l : Lane} {q m : Byte} {r : Reader}

theorem parseFetch_singleton (least : 1 ≤ m.toNat) (most : m.toNat ≤ 6) : parseFetch [m] = some m.toNat :=
  if_pos ⟨least, most⟩

theorem fetch_of_absent (takes : Takes s l q [m]) (parsed : parseFetch [m] = some m.toNat)
    (absent : s.laneState l = .absent) : ∃ t, exec (.fetchNotices l q [m]) s = .next t ∧ OnlyPorts s t ∧
      Answered s t l 0x0B#8 q .notVoting [] false := by
  have served : handleFetchNotices l [m] s.toBlocks s.staging = unchanged s.toBlocks s.staging .notVoting [] := by
    simp only [handleFetchNotices, parsed, if_pos absent]
  exact ⟨_, rfl, receive_unchanged takes served⟩

theorem fetch_of_reader (takes : Takes s l q [m]) (parsed : parseFetch [m] = some m.toNat)
    (present : s.laneState l ≠ .absent) (reader : s.notices.readers.row l = some r)
    (inside : ∀ i, s.notices.unread i ≤ s.notices.queue.length) :
    ∃ t k, exec (.fetchNotices l q [m]) s = .next t ∧ OutsideKept s t ∧ t.staging = s.staging ∧
      k ≤ m.toNat ∧ k ≤ s.notices.unread l ∧
      (((s.notices.unreadEntries l).take k).flatMap Notice.bytes).length ≤ 254 ∧
      (k = m.toNat ∨ k = s.notices.unread l ∨
        254 < (((s.notices.unreadEntries l).take (k + 1)).flatMap Notice.bytes).length) ∧
      Answered s t l 0x0B#8 q .accepted ([byte k, byte (s.notices.unread l - k)]
        ++ ((s.notices.unreadEntries l).take k).flatMap Notice.bytes) r.gap ∧
      t.notices.readers.row l = some ⟨r.cursor + BitVec.ofNat 16 k, false⟩ ∧
      (∀ i, i ≠ l → t.notices.readers.row i = s.notices.readers.row i) ∧ t.notices.next = s.notices.next ∧
      (∃ gone, s.notices.queue = gone ++ t.notices.queue) ∧ HoldsTheUnread t.notices ∧
      t.toBlocks = { s.toBlocks with notices := t.notices } := by
  obtain ⟨k, taken, length, atMost, unread, within, stops⟩ := NoticeUnit.fetched_spec (inside l) m.toNat
  have after := NoticeUnit.afterFetch_eq reader m.toNat
  rw [length] at after
  have fits := NoticeUnit.cursorFits_advanced reader (inside l) unread false
  obtain ⟨next, others, gone, -, holds⟩ := NoticeUnit.trimmedBeside_setReader inside fits l
  rw [← after] at next others gone holds
  have row : (s.notices.afterFetch l m.toNat).readers.row l = some ⟨r.cursor + BitVec.ofNat 16 k, false⟩ := by
    simp [after]
  have left : (s.notices.afterFetch l m.toNat).unread l = s.notices.unread l - k := by
    rw [NoticeUnit.unread_of_reader row, next]
    exact NoticeUnit.unreadOf_advanced reader unread false
  have marked : s.notices.gapOf l = r.gap := by simp only [NoticeUnit.gapOf, reader]
  have served : handleFetchNotices l [m] s.toBlocks s.staging
      = ⟨{ s.toBlocks with notices := s.notices.afterFetch l m.toNat }, s.staging,
          .reply .accepted ([byte k, byte (s.notices.unread l - k)]
            ++ ((s.notices.unreadEntries l).take k).flatMap Notice.bytes) r.gap⟩ := by
    simp only [handleFetchNotices, parsed, if_neg present, length, left, marked]
    rw [taken]
  obtain ⟨outside, blocks, staging, answered⟩ := receive_answered (k := 0x0B#8) takes served
  generalize run : s.receive l 0x0B#8 q [m] (handleFetchNotices l [m]) = t at outside blocks staging answered
  have notices : t.notices = s.notices.afterFetch l m.toNat := by rw [blocks]
  rw [← notices] at row others next gone holds blocks
  exact ⟨t, k, congrArg Host.Outcome.next run, outside, staging, atMost, unread, within, stops, answered, row, others,
    next, gone, holds ⟨l, by rw [row]; exact nofun⟩, blocks⟩

end Fetch

/-! ## The bytes of an entry (11 R183) -/

/-- The header of an entry: sequence number, kind, stamp and the length of the body. -/
def noticeHead (seq stamp : BitVec 16) (kind : Byte) (length : Nat) : List Byte :=
  bytes16 seq.toNat ++ [kind] ++ bytes16 stamp.toNat ++ [byte length]

/-- An entry is the header with the length of its body, and the body. -/
theorem Notice.bytes_eq (seq stamp : BitVec 16) {body : NoticeBody} {bytes : List Byte} {length : Nat}
    (written : body.bytes = bytes) (counted : bytes.length = length) :
    (Notice.mk seq stamp body).bytes = noticeHead seq stamp body.code length ++ bytes := by
  rw [Notice.bytes, written, counted, noticeHead]

namespace NoticeBody

/-! The lengths of the bodies whose parts vary. -/

theorem length_dissent (round : BitVec 16) (items : List (Channel × LaneSet)) :
    (dissent round items).bytes.length = 3 + 2 * items.length := by
  rw [bytes, List.length_append, List.length_append, length_flatMap_records (n := 2) fun _ => rfl]
  rfl

theorem length_unagreed (round : BitVec 16) (items : List (Channel × Bool)) :
    (unagreed round items).bytes.length = 3 + items.length := by
  simp only [bytes, List.length_append, List.length_map]
  rfl

theorem length_withheld (round : BitVec 16) (items : List (Channel × GroupSet)) :
    (withheld round items).bytes.length = 3 + 3 * items.length := by
  rw [bytes, List.length_append, List.length_append, length_flatMap_records (n := 3) fun _ => rfl]
  rfl

theorem length_ballotPassed (slot : BallotSlot) (action : BallotAction) (supporters : LaneSet) :
    (ballotPassed slot action supporters).bytes.length = 7 := by
  simp only [bytes, List.length_append, action.length_argument]
  rfl

theorem length_ballotEnded (slot : BallotSlot) (action : BallotAction) (cause : BallotEnd) (supporters : LaneSet) :
    (ballotEnded slot action cause supporters).bytes.length = 8 := by
  simp only [bytes, List.length_append, action.length_argument]
  rfl

theorem length_configSwitched (old : Option Digest) (new : Digest) : (configSwitched old new).bytes.length = 9 := rfl

end NoticeBody

/-- A channel number leaves bit 7 of its byte free for a flag. -/
theorem byte_or_flagBit (c : Channel) (flag : Bool) :
    byte c.val ||| flagBit flag 7 = byte (c.val + if flag = true then 128 else 0) := by
  revert c flag
  decide

theorem levelCode_eq (level : ReadbackLevel) : levelCode level = if level = .energized then 0x01#8 else 0x00#8 := by
  cases level <;> rfl

/-! ## The layout of each kind (11 R183) -/

section Layout

variable (seq stamp : BitVec 16)

theorem Notice.bytes_dissent (round : BitVec 16) (items : List (Channel × LaneSet)) :
    (Notice.mk seq stamp (.dissent round items)).bytes =
      noticeHead seq stamp 0x01#8 (3 + 2 * items.length) ++ bytes16 round.toNat ++ [byte items.length]
        ++ (items.map (fun i => [byte i.1.val, laneSetByte i.2])).flatten := by
  rw [Notice.bytes_eq seq stamp rfl (NoticeBody.length_dissent round items)]
  simp only [NoticeBody.bytes, NoticeBody.code, List.append_assoc, List.flatMap_def]

theorem Notice.bytes_unagreed (round : BitVec 16) (items : List (Channel × Bool)) :
    (Notice.mk seq stamp (.unagreed round items)).bytes =
      noticeHead seq stamp 0x02#8 (3 + items.length) ++ bytes16 round.toNat ++ [byte items.length]
        ++ items.map (fun i => byte (i.1.val + if i.2 = true then 128 else 0)) := by
  rw [Notice.bytes_eq seq stamp rfl (NoticeBody.length_unagreed round items)]
  simp only [NoticeBody.bytes, NoticeBody.code, List.append_assoc, byte_or_flagBit]

theorem Notice.bytes_withheld (round : BitVec 16) (items : List (Channel × GroupSet)) :
    (Notice.mk seq stamp (.withheld round items)).bytes =
      noticeHead seq stamp 0x03#8 (3 + 3 * items.length) ++ bytes16 round.toNat ++ [byte items.length]
        ++ (items.map (fun i => byte i.1.val :: bytes16 i.2.toNat)).flatten := by
  rw [Notice.bytes_eq seq stamp rfl (NoticeBody.length_withheld round items)]
  simp only [NoticeBody.bytes, NoticeBody.code, List.append_assoc, List.flatMap_def, List.singleton_append]

theorem Notice.bytes_ballotPassed (slot : BallotSlot) (action : BallotAction) (supporters : LaneSet) :
    (Notice.mk seq stamp (.ballotPassed slot action supporters)).bytes =
      noticeHead seq stamp 0x08#8 7 ++ [byte slot.val, action.code] ++ action.argument ++ [laneSetByte supporters] := by
  rw [Notice.bytes_eq seq stamp rfl (NoticeBody.length_ballotPassed slot action supporters)]
  simp only [NoticeBody.bytes, NoticeBody.code, List.append_assoc]

theorem Notice.bytes_ballotEnded (slot : BallotSlot) (action : BallotAction) (cause : BallotEnd)
    (supporters : LaneSet) : (Notice.mk seq stamp (.ballotEnded slot action cause supporters)).bytes =
      noticeHead seq stamp 0x09#8 8 ++ [byte slot.val, action.code] ++ action.argument
        ++ [cause.code, laneSetByte supporters] := by
  rw [Notice.bytes_eq seq stamp rfl (NoticeBody.length_ballotEnded slot action cause supporters)]
  simp only [NoticeBody.bytes, NoticeBody.code, List.append_assoc]

theorem Notice.bytes_configSwitched (old : Option Digest) (new : Digest) :
    (Notice.mk seq stamp (.configSwitched old new)).bytes =
      noticeHead seq stamp 0x0A#8 9 ++ [flagBit old.isSome 0] ++ bytes32 (old.getD 0) ++ bytes32 new := by
  rw [Notice.bytes_eq seq stamp rfl (NoticeBody.length_configSwitched old new)]
  simp only [NoticeBody.bytes, NoticeBody.code, List.append_assoc]

end Layout

/-- Settles O57: the answer of the notice unit to a fetch, and its operations, one after the other. -/
theorem fetchTakesTheOldestUnread : Obligations.FetchTakesTheOldestUnread := by
  refine ⟨fun s l q m r takes least most => ?fetch, NoticeUnit.post_follows, fun n l inside => ?readers, ?bytes⟩
  case fetch =>
    have parsed := parseFetch_singleton least most
    refine ⟨fetch_of_absent takes parsed, fun present reader law => ?_⟩
    exact fetch_of_reader takes parsed present reader ((noticeLaw_iff s).mp law).lawful.inside
  case readers =>
    have joined := NoticeUnit.trimmedBeside_setReader inside (n.cursorFits_next false) l
    have left := NoticeUnit.trimmedBeside_setReader inside n.cursorFits_none l
    exact ⟨joined, by simp [NoticeUnit.joinReader_eq], left, by simp [NoticeUnit.leaveReader_eq]⟩
  case bytes =>
    intro seq stamp entry head fault
    have fixed {body : NoticeBody} {bytes : List Byte} {length : Nat} (written : body.bytes = bytes)
        (counted : bytes.length = length) : entry body = head body.code length ++ bytes :=
      Notice.bytes_eq seq stamp written counted
    have faulted (c : Channel) (v : Drive) (level : ReadbackLevel) : faultBody c v level = fault c v level := by
      simp only [faultBody, levelCode_eq]
      rfl
    exact ⟨Notice.bytes_dissent seq stamp, Notice.bytes_unagreed seq stamp, Notice.bytes_withheld seq stamp,
      fun c v level => fixed (faulted c v level) rfl, fun c v level => fixed (faulted c v level) rfl,
      fun c before => fixed rfl rfl, fun l before after cause => fixed rfl rfl, Notice.bytes_ballotPassed seq stamp,
      Notice.bytes_ballotEnded seq stamp, Notice.bytes_configSwitched seq stamp none,
      fun old new => Notice.bytes_configSwitched seq stamp (some old) new,
      fun before after cause => fixed rfl rfl⟩

end Sys2Proof.Machine
end

section
/-! # A step on a queue that is not empty (00 section 1.6) -/

namespace Sys2Proof.Machine

/-- Settles O1: of the two cases of a step the queue chooses the one with a command at its front. -/
theorem stepRunsFrontCommand : Obligations.StepRunsFrontCommand := by
  intro i rest s queued
  unfold step
  rw [queued]

end Sys2Proof.Machine
end

section
/-! # What one step does to the whole state

The blocks alone are in `BlocksEvent`; a law that speaks of staging areas, ports or the reset condition is kept by a step
once it is kept by the events listed here. -/

namespace Sys2Proof.Machine

/-- What a request frame that passed checks 1 and 2 leaves (10 R165). -/
inductive FrameEffect (s : State) (l : Lane) : State → Prop
  /-- In reset the frame is discarded (10 R177). -/
  | discarded : FrameEffect s l s
  /-- A check refuses it. -/
  | refused (o : PortOutcome) (q : Option Byte) : FrameEffect s l (s.setOutcome l o q)
  /-- Its request is taken: its kind `k` is answered by the owner that `kind` names. -/
  | taken (k q kind : Byte) (p : List Byte) (evalB : Option Evaluation) (free : (s.ports.row l).queue.length < 4) :
      FrameEffect s l (s.takeRequest l k q (handlerOf l kind p evalB))
  /-- A LINK_RESET is taken. -/
  | linkReset (k q : Byte) : FrameEffect s l (s.takeLinkReset l k q)

/-- The state an event leaves, the two resets apart: commands and idle steps bring about nothing else. -/
inductive StateEvent (s : State) : State → Prop
  | unchanged : StateEvent s s
  /-- A transaction begins, or one that a reset covers ends (10 R161, R177). -/
  | transaction (l : Lane) (x : Transaction) (covered : s.inReset = true → x = .none ∨ x = .dead) :
      StateEvent s (s.setPort l { s.ports.row l with transaction := x })
  /-- A request command: its frame has good length and CRC. -/
  | frame {t : State} (l : Lane) (running : s.inReset = false) (effect : FrameEffect s l t) : StateEvent s t
  /-- A transaction ends: the delivery is settled, then the bytes shifted in are judged (10 R163). -/
  | released {t : State} (l : Lane) (delivered : Bool) (running : s.inReset = false)
      (effect : FrameEffect (s.settleDelivery l delivered) l t) : StateEvent s t
  /-- A due timer expires. -/
  | expired (n : TimerName) (evalB : Option Evaluation) (due : s.timer n = some 0) :
      StateEvent s (s.expire evalB n).updateAttn
  /-- A seal in flight completes (07 R115). -/
  | completed (l : Lane) (left : Nat) (sealing : s.timer (.sealing l) = some left) :
      StateEvent s (s.completeSeal l).updateAttn
  /-- A readback level changes (08 R134). -/
  | readback (c : Channel) (level : ReadbackLevel) (running : s.inReset = false) :
      StateEvent s (s.setBlocks (s.toBlocks.readbackChanges c level))
  /-- A store check fails (05 R85, R87). -/
  | storeCheck (running : s.inReset = false) (free : s.device ≠ .lockout) :
      StateEvent s (s.setBlocks (s.toBlocks.enterLockout .storeCheck)).updateAttn
  /-- One ms passes. -/
  | later (running : s.inReset = false) : StateEvent s s.timersLater

theorem State.inReset_false {s : State} (h : ¬ s.inReset = true) : s.inReset = false := by simpa using h

/-- No timer runs in reset (12 R186). -/
theorem State.timer_inReset {s : State} (h : s.inReset = true) (n : TimerName) : s.timer n = none := if_pos h

theorem State.inReset_of_timer {s : State} {n : TimerName} {left : Nat} (h : s.timer n = some left) :
    s.inReset = false := by
  by_contra held
  rw [State.timer_inReset (by simpa using held)] at h
  cases h

namespace FrameEffect

variable {s : State} {l : Lane}

theorem receive (k q kind : Byte) (p p' : List Byte) (evalB : Option Evaluation) :
    FrameEffect s l (s.receive l k q p (handlerOf l kind p' evalB)) := by
  unfold State.receive
  split
  · exact discarded
  split
  · exact refused ..
  split
  · rename_i passed
    exact taken k q kind p' evalB (((s.ports.row l).check_taken_iff q).mp passed).2
  · exact refused ..

theorem receiveLinkReset (k q : Byte) (p : List Byte) : FrameEffect s l (s.receiveLinkReset l k q p) := by
  unfold State.receiveLinkReset
  split
  · exact discarded
  split
  · exact refused ..
  · exact linkReset ..

theorem takeFrame (f : RequestFrame) (evalB : Option Evaluation) : FrameEffect s l (s.takeFrame l f evalB) := by
  unfold State.takeFrame
  split
  · exact receiveLinkReset ..
  · exact receive ..

theorem judgeBytes (bs : List Byte) (evalB : Option Evaluation) : FrameEffect s l (s.judgeBytes l bs evalB) := by
  unfold State.judgeBytes
  split
  · exact discarded
  split
  · exact refused ..
  · exact refused ..
  · exact takeFrame ..

/-- A frame can reach neither the reset condition nor the clock nor the queue of commands. -/
theorem outsideKept {t : State} (h : FrameEffect s l t) : OutsideKept s t := by
  cases h <;> exact ⟨rfl, rfl, rfl⟩

end FrameEffect

namespace StateEvent

variable {s : State}

/-- A request command: in reset nothing comes of it (10 R177). -/
theorem receive (l : Lane) (k q kind : Byte) (p p' : List Byte) (evalB : Option Evaluation) :
    StateEvent s (s.receive l k q p (handlerOf l kind p' evalB)) := by
  by_cases held : s.inReset = true
  · rw [s.receive_inReset l k q p _ held]
    exact unchanged
  · exact frame l (State.inReset_false held) (.receive ..)

theorem receiveLinkReset (l : Lane) (k q : Byte) (p : List Byte) :
    StateEvent s (s.receiveLinkReset l k q p) := by
  by_cases held : s.inReset = true
  · rw [State.receiveLinkReset, if_pos held]
    exact unchanged
  · exact frame l (State.inReset_false held) (.receiveLinkReset ..)

theorem beginTransaction (l : Lane) : StateEvent s (s.beginTransaction l) := by
  unfold State.beginTransaction
  split
  · exact transaction l _ fun held => .inr (if_pos held)
  · exact unchanged
  · exact unchanged

theorem endTransaction (l : Lane) (bs : List Byte) (evalB : Option Evaluation) :
    StateEvent s (s.endTransaction l bs evalB) := by
  unfold State.endTransaction
  split
  · exact unchanged
  · exact transaction l .none fun _ => .inl rfl
  · split
    · exact transaction l .none fun _ => .inl rfl
    · rename_i running
      exact released l _ (State.inReset_false running) (.judgeBytes ..)

theorem expireNow (n : TimerName) (evalB : Option Evaluation) : StateEvent s (s.expireNow n evalB) := by
  by_cases due : s.timer n = some 0
  · rw [s.expireNow_due n evalB due]
    exact expired n evalB due
  · rw [s.expireNow_notDue n evalB due]
    exact unchanged

theorem completeNow (l : Lane) : StateEvent s (s.completeNow l) := by
  cases sealing : s.timer (.sealing l) with
  | none =>
    rw [s.completeNow_stopped l sealing]
    exact unchanged
  | some left =>
    rw [s.completeNow_running l left sealing]
    exact completed l left sealing

theorem readbackLevelChange (c : Channel) (level : ReadbackLevel) :
    ∃ t, execReadbackLevelChange c level s = .next t ∧ StateEvent s t := by
  unfold execReadbackLevelChange
  split
  · exact ⟨s, rfl, unchanged⟩
  · rename_i guard
    exact ⟨_, rfl, readback c level (State.inReset_false fun held => guard (.inl held))⟩

theorem scrubRecheck (record : ProtectedRecord) (agrees : Bool) :
    ∃ t, execScrubRecheck record agrees s = .next t ∧ StateEvent s t := by
  unfold execScrubRecheck
  split
  · exact ⟨s, rfl, unchanged⟩
  · rename_i guard
    exact ⟨_, rfl, storeCheck (State.inReset_false fun held => guard (.inr (.inl held)))
      fun lockout => guard (.inr (.inr lockout))⟩

/-- No event but a reset reaches the reset condition, and none the clock or the queue of commands. -/
theorem outsideKept {t : State} (h : StateEvent s t) : OutsideKept s t := by
  cases h with
  | frame l _ effect => exact effect.outsideKept
  | released l delivered _ effect => exact effect.outsideKept
  | expired n evalB _ => exact s.expire_kept evalB n
  | _ => exact ⟨rfl, rfl, rfl⟩

end StateEvent

/-- What a reset command does: a reset, or nothing when it ends a reset that is not in force (log 17). -/
theorem exec_reset {i : Instr} (h : isResetCommand i = true) (s : State) :
    (∃ record power, exec i s = .next (s.resetTo record power)) ∨ exec i s = .next s := by
  cases i <;> cases h
  case powerOnReset => exact .inl ⟨_, _, rfl⟩
  case brownOut => exact .inl ⟨_, _, rfl⟩
  case rstnAssert => exact .inl ⟨_, _, rfl⟩
  case powerOnResetEnd =>
    by_cases inForce : s.power.supplyReset = true
    · exact .inl ⟨_, _, if_pos inForce⟩
    · exact .inr (if_neg inForce)
  case rstnRelease =>
    by_cases low : s.power.rstnLow = true
    · exact .inl ⟨_, _, if_pos low⟩
    · exact .inr (if_neg low)

/-- What any other command does. -/
theorem exec_stateEvent {i : Instr} (h : isResetCommand i = false) (s : State) :
    ∃ t, exec i s = .next t ∧ StateEvent s t := by
  cases i
  case powerOnReset => cases h
  case brownOut => cases h
  case powerOnResetEnd => cases h
  case rstnAssert => cases h
  case rstnRelease => cases h
  case chipSelectAssert l => exact ⟨_, rfl, .beginTransaction l⟩
  case chipSelectRelease l bs e => exact ⟨_, rfl, .endTransaction l bs e⟩
  case join l q p => exact ⟨_, rfl, .receive l 0x01#8 q 0x01#8 p p none⟩
  case leave l q p e => exact ⟨_, rfl, .receive l 0x02#8 q 0x02#8 p p e⟩
  case keepalive l q p => exact ⟨_, rfl, .receive l 0x03#8 q 0x03#8 p p none⟩
  case propose l q p e => exact ⟨_, rfl, .receive l 0x04#8 q 0x04#8 p p e⟩
  case veto l q p => exact ⟨_, rfl, .receive l 0x05#8 q 0x05#8 p p none⟩
  case support l q p => exact ⟨_, rfl, .receive l 0x06#8 q 0x06#8 p p none⟩
  case stageWrite l q p => exact ⟨_, rfl, .receive l 0x07#8 q 0x07#8 p p none⟩
  case stageSeal l q p => exact ⟨_, rfl, .receive l 0x08#8 q 0x08#8 p p none⟩
  case stageOpen l q p => exact ⟨_, rfl, .receive l 0x09#8 q 0x09#8 p p none⟩
  case readStaging l q p => exact ⟨_, rfl, .receive l 0x0A#8 q 0x0A#8 p p none⟩
  case fetchNotices l q p => exact ⟨_, rfl, .receive l 0x0B#8 q 0x0B#8 p p none⟩
  case readStatus l q p => exact ⟨_, rfl, .receive l 0x0C#8 q 0x0C#8 p p none⟩
  case readChannels l q p => exact ⟨_, rfl, .receive l 0x0D#8 q 0x0D#8 p p none⟩
  case readBallots l q p => exact ⟨_, rfl, .receive l 0x0E#8 q 0x0E#8 p p none⟩
  case linkReset l q p => exact ⟨_, rfl, .receiveLinkReset l 0x0F#8 q p⟩
  case unknownRequestKind l k q p => exact ⟨_, rfl, .receive l k q 0x00#8 p p none⟩
  case roundDeadlineExpiry e => exact ⟨_, rfl, .expireNow .deadline e⟩
  case leaseExpiry l e => exact ⟨_, rfl, .expireNow (.lease l) e⟩
  case graceExpiry l => exact ⟨_, rfl, .expireNow (.grace l) none⟩
  case ballotLifetimeExpiry slot => exact ⟨_, rfl, .expireNow (.lifetime slot) none⟩
  case sealCompletion l => exact ⟨_, rfl, .completeNow l⟩
  case readbackLevelChange c level => exact StateEvent.readbackLevelChange c level
  case settleExpiry c => exact ⟨_, rfl, .expireNow (.settle c) none⟩
  case mismatchTimerExpiry c => exact ⟨_, rfl, .expireNow (.mismatch c) none⟩
  case scrubRecheck record agrees => exact StateEvent.scrubRecheck record agrees

/-- What an idle step does, the count of idle steps apart. -/
theorem idle_stateEvent (s : State) : ∃ t, s.idle = { t with clock := s.clock + 1 } ∧ StateEvent s t := by
  unfold State.idle
  simp only
  split
  · exact ⟨_, rfl, .unchanged⟩
  · rename_i running
    split
    · exact ⟨_, rfl, .expireNow ..⟩
    · exact ⟨_, rfl, .later (State.inReset_false running)⟩

/-- From `P` a step leads to `Q` once a reset and every other event do, when the clock and the queue of commands concern
neither. -/
theorem step_leads {P Q : State → Prop}
    (before : ∀ s clock pending, P s → P { s with clock := clock, pending := pending })
    (after : ∀ s clock pending, Q s → Q { s with clock := clock, pending := pending })
    (reset : ∀ s record power, P s → Q (s.resetTo record power)) (event : ∀ s t, P s → StateEvent s t → Q t)
    {s t : State} (holds : P s) (next : step s = .next t) : Q t := by
  unfold step at next
  split at next
  · cases next
    obtain ⟨u, idle, happens⟩ := idle_stateEvent s
    exact idle ▸ after u _ _ (event s u holds happens)
  · rename_i i rest _
    have taken : P { s with pending := rest } := before s s.clock rest holds
    by_cases resets : isResetCommand i = true
    · rcases exec_reset resets { s with pending := rest } with ⟨record, power, done⟩ | done
      all_goals
        rw [done] at next
        cases next
      · exact reset _ record power taken
      · exact event _ _ taken .unchanged
    · obtain ⟨u, done, happens⟩ := exec_stateEvent (by simpa using resets) { s with pending := rest }
      rw [done] at next
      cases next
      exact event _ t taken happens

/-- A predicate that the clock and the queue of commands do not concern is kept by a step once a reset and every other
event keep it. -/
theorem step_keeps {P : State → Prop} (outside : ∀ s clock pending, P s → P { s with clock := clock, pending := pending })
    (reset : ∀ s record power, P s → P (s.resetTo record power)) (event : ∀ s t, P s → StateEvent s t → P t)
    {s t : State} (holds : P s) (next : step s = .next t) : P t :=
  step_leads outside outside reset event holds next

end Sys2Proof.Machine
end

section
/-! # Every command has an effect (INVENTORY, Faults)

No command stops the part, and none but a reset touches it while it is held in reset. -/

namespace Sys2Proof.Machine

/-- Of all that an event can be, reset lets only transactions through. -/
theorem StateEvent.in_reset {s t : State} (h : StateEvent s t) (held : s.inReset = true) :
    t.toBlocks = s.toBlocks ∧ t.staging = s.staging ∧
      ∀ l, ∃ x, (x = .none ∨ x = .dead ∨ x = (s.ports.row l).transaction) ∧
        t.ports.row l = { s.ports.row l with transaction := x } := by
  have stays : ∀ l, ∃ x, (x = .none ∨ x = .dead ∨ x = (s.ports.row l).transaction) ∧
      s.ports.row l = { s.ports.row l with transaction := x } := fun l => ⟨_, .inr (.inr rfl), rfl⟩
  have out : ∀ {p : Prop}, s.inReset = false → p := fun running => by rw [running] at held; cases held
  cases h with
  | unchanged => exact ⟨rfl, rfl, stays⟩
  | transaction l x covered =>
    refine ⟨rfl, rfl, fun m => ?_⟩
    by_cases same : l = m
    · subst same
      exact ⟨x, (covered held).imp_right .inl, by simp⟩
    · simp [Table.row_put_of_ne _ same]
  | frame l running _ => exact out running
  | released l _ running _ => exact out running
  | expired n _ due => exact out (State.inReset_of_timer due)
  | completed l left sealing => exact out (State.inReset_of_timer sealing)
  | readback c level running => exact out running
  | storeCheck running _ => exact out running
  | later running => exact out running

/-- Settles O4: a reset command resets or does nothing, any other is an event that leaves reset condition, clock and
queue. -/
theorem everyCommandAnswersNext : Obligations.EveryCommandAnswersNext := by
  intro i s
  by_cases resets : isResetCommand i = true
  · rcases exec_reset resets s with ⟨record, power, done⟩ | done
    · exact ⟨_, done, rfl, rfl, by simp [resets]⟩
    · exact ⟨_, done, rfl, rfl, by simp [resets]⟩
  · obtain ⟨t, done, event⟩ := exec_stateEvent (by simpa using resets) s
    obtain ⟨power, clock, pending⟩ := event.outsideKept
    exact ⟨t, done, pending, clock, fun _ => ⟨power, event.in_reset⟩⟩

end Sys2Proof.Machine
end

section
/-! # The staging area and the answer of a request (07 R113 to R118, 10 R168)

Three requests write the staging area of their lane, one of them is answered with a reservation; every other request is
answered at once and leaves the staging areas. -/

namespace Sys2Proof.Machine

/-- The blocks after the sealed image of a lane is reopened: the lane leaves the ballot for its digest (07 R117). -/
def Blocks.afterReopening (b : Blocks) (staging : Staging) (l : Lane) : Blocks :=
  match (staging.row l).digest with
  | some d => b.imageReopened l d
  | none => b

/-- What an owner leaves of blocks `b` and staging areas, by what it does to the area of its lane. -/
inductive ServedEffect (b : Blocks) (staging : Staging) (l : Lane) : Served → Prop
  | answered (after : Blocks) (o : Outcome) (payload : List Byte) (gap : Bool) :
      ServedEffect b staging l ⟨after, staging, .reply o payload gap⟩
  /-- STAGE_WRITE (07 R113). -/
  | written (offset : Nat) (data : List Byte) (opened : (staging.row l).state = .opened) :
      ServedEffect b staging l (unchanged b (staging.put l ((staging.row l).written offset data)) .accepted [])
  /-- STAGE_SEAL (07 R114). -/
  | sealing (opened : (staging.row l).state = .opened) :
      ServedEffect b staging l ⟨b, staging.put l (staging.row l).beginSeal, .reserve⟩
  /-- STAGE_OPEN of a sealed image (07 R117). -/
  | reopened (isSealed : (staging.row l).state = .sealed) :
      ServedEffect b staging l
        (unchanged (b.afterReopening staging l) (staging.put l (staging.row l).reopened) .accepted [])

namespace ServedEffect

variable (b : Blocks) (staging : Staging) (l : Lane) (payload : List Byte)

theorem unchanged (after : Blocks) (o : Outcome) (p : List Byte) :
    ServedEffect b staging l (unchanged after staging o p) := answered ..

theorem badRequest (after : Blocks) : ServedEffect b staging l (badRequest after staging) := answered ..

theorem handleVeto : ServedEffect b staging l (handleVeto l payload b staging) := by
  unfold Machine.handleVeto
  split
  · exact badRequest ..
  iterate 3
    split
    · exact unchanged ..
  split
  · exact unchanged ..
  · exact unchanged ..

theorem handleSupport : ServedEffect b staging l (handleSupport l payload b staging) := by
  unfold Machine.handleSupport
  split
  · exact badRequest ..
  · unfold SupportAnswer.served
    split
    · exact unchanged ..
    · exact unchanged ..

theorem handleStageWrite : ServedEffect b staging l (handleStageWrite l payload b staging) := by
  unfold Machine.handleStageWrite
  split
  · exact badRequest ..
  split
  · exact unchanged ..
  split
  · exact unchanged ..
  · exact unchanged ..
  · rename_i opened
    split
    · exact unchanged ..
    · exact written _ _ opened

theorem handleStageSeal : ServedEffect b staging l (handleStageSeal l payload b staging) := by
  unfold Machine.handleStageSeal
  split
  · exact badRequest ..
  split
  · exact unchanged ..
  split
  · exact unchanged ..
  · exact unchanged ..
  · rename_i opened
    exact sealing opened

theorem handleStageOpen : ServedEffect b staging l (handleStageOpen l payload b staging) := by
  unfold Machine.handleStageOpen
  split
  · exact badRequest ..
  split
  · exact unchanged ..
  split
  · exact unchanged ..
  · exact unchanged ..
  · rename_i isSealed
    exact reopened isSealed

theorem handleReadStaging : ServedEffect b staging l (handleReadStaging l payload b staging) := by
  unfold Machine.handleReadStaging
  split
  · exact badRequest ..
  · exact unchanged ..
  · split
    · exact unchanged ..
    · exact unchanged ..

theorem handleFetchNotices : ServedEffect b staging l (handleFetchNotices l payload b staging) := by
  unfold Machine.handleFetchNotices
  split
  · exact badRequest ..
  split
  · exact unchanged ..
  · exact answered ..

end ServedEffect

/-- What the owner of any request kind leaves. -/
theorem servedEffect_handlerOf (b : Blocks) (staging : Staging) (l : Lane) (kind : Byte) (payload : List Byte)
    (evalB : Option Evaluation) : ServedEffect b staging l (handlerOf l kind payload evalB b staging) := by
  generalize taken : handlerOf l kind payload evalB = handle
  unfold handlerOf at taken
  split at taken <;> subst taken
  · unfold handleJoin
    split
    · exact .badRequest ..
    · exact .unchanged ..
  · unfold handleLeave
    split
    · exact .badRequest ..
    · exact .unchanged ..
  · unfold handleKeepalive
    split
    · exact .badRequest ..
    · exact .unchanged ..
  · unfold handlePropose
    split
    · exact .badRequest ..
    · exact .unchanged ..
  · exact .handleVeto ..
  · exact .handleSupport ..
  · exact .handleStageWrite ..
  · exact .handleStageSeal ..
  · exact .handleStageOpen ..
  · exact .handleReadStaging ..
  · exact .handleFetchNotices ..
  · unfold handleReadStatus
    split
    · exact .badRequest ..
    · exact .unchanged ..
  · unfold handleReadChannels
    split
    · exact .badRequest ..
    · split
      · exact .unchanged ..
      · exact .unchanged ..
  · unfold handleReadBallots
    split
    · exact .badRequest ..
    · exact .unchanged ..
  · exact .badRequest ..

/-- An expiry that is not a completion of a seal leaves staging areas and ports. -/
theorem State.expire_inside (s : State) (evalB : Option Evaluation) {n : TimerName} (h : ∀ l, n ≠ .sealing l) :
    (s.expire evalB n).staging = s.staging ∧ (s.expire evalB n).ports = s.ports := by
  cases n with
  | sealing l => exact absurd rfl (h l)
  | lifetime slot =>
    simp only [State.expire]
    split <;> exact ⟨rfl, rfl⟩
  | _ => exact ⟨rfl, rfl⟩

/-- A due timer is a seal's, whose seal then completes, or another. -/
theorem State.expire_cases (s : State) (evalB : Option Evaluation) (n : TimerName) :
    (∃ l, n = .sealing l ∧ s.expire evalB n = s.completeSeal l) ∨
      (s.expire evalB n).staging = s.staging ∧ (s.expire evalB n).ports = s.ports := by
  cases n with
  | sealing l => exact .inl ⟨l, rfl, rfl⟩
  | _ => exact .inr (s.expire_inside evalB (by simp))

end Sys2Proof.Machine
end

section
/-! # The ATTN law (10 R170)

Every event that can change a queue or an unread count re-evaluates the ATTN lines; the others leave both. -/

namespace Sys2Proof.Machine

theorem attnLaw_iff (s : State) : AttnLaw s ↔ ∀ l, (s.ports.row l).attn = s.attnCondition l := by
  refine forall_congr' fun l => ?_
  rw [Bool.eq_iff_iff (b := s.attnCondition l)]
  simp [State.attnCondition]

namespace AttnLaw

theorem updateAttn (s : State) : AttnLaw s.updateAttn := (attnLaw_iff _).mpr fun l => s.updateAttn_attn l

theorem takeRequest (s : State) (l : Lane) (k q : Byte) (h : Handler) : AttnLaw (s.takeRequest l k q h) := updateAttn _

theorem takeLinkReset (s : State) (l : Lane) (k q : Byte) : AttnLaw (s.takeLinkReset l k q) := updateAttn _

theorem settleDelivery (s : State) (l : Lane) (delivered : Bool) : AttnLaw (s.settleDelivery l delivered) := updateAttn _

/-- A port written with its queue and its ATTN line as they were. -/
theorem setPort {s : State} (law : AttnLaw s) (l : Lane) {p : Port} (queue : p.queue = (s.ports.row l).queue)
    (attn : p.attn = (s.ports.row l).attn) : AttnLaw (s.setPort l p) := by
  intro m
  have reset : (s.setPort l p).inReset = s.inReset := rfl
  by_cases same : l = m
  · subst same
    simpa [queue, attn, reset] using law l
  · simpa [Table.row_put_of_ne _ same, reset] using law m

/-- Blocks written with the notices as they were. -/
theorem setBlocks {s : State} (law : AttnLaw s) {b : Blocks} (notices : b.notices = s.notices) :
    AttnLaw (s.setBlocks b) := by
  intro l
  have reset : (s.setBlocks b).inReset = s.inReset := rfl
  simpa [notices, reset] using law l

theorem resetTo (s : State) (record : Option LockoutRecord) (power : Power) : AttnLaw (s.resetTo record power) := by
  intro l
  simp [Port.afterReset, Port.reset, Blocks.reset, NoticeUnit.reset, NoticeUnit.unread]

theorem frame {s t : State} {l : Lane} (law : AttnLaw s) (effect : FrameEffect s l t) : AttnLaw t := by
  cases effect with
  | discarded => exact law
  | refused o q => exact law.setPort l rfl rfl
  | taken k q kind p evalB _ => exact takeRequest s l k q _
  | linkReset k q => exact takeLinkReset s l k q

theorem event {s t : State} (law : AttnLaw s) (event : StateEvent s t) : AttnLaw t := by
  cases event with
  | unchanged => exact law
  | transaction l x _ => exact law.setPort l rfl rfl
  | frame l _ effect => exact law.frame effect
  | released l delivered _ effect => exact (settleDelivery s l delivered).frame effect
  | expired n evalB _ => exact updateAttn _
  | completed l left _ => exact updateAttn _
  | readback c level _ => exact law.setBlocks rfl
  | storeCheck _ _ => exact updateAttn _
  | later _ => exact law.setBlocks rfl

end AttnLaw

/-- Settles O9: every event keeps the law, most of them because they end with the lines re-evaluated. -/
theorem attnLawKept : Obligations.AttnLawKept :=
  fun _ _ law next => step_keeps (P := AttnLaw) (fun _ _ _ law => law) (fun s record power _ => .resetTo s record power)
    (fun _ _ law happens => law.event happens) law next

end Sys2Proof.Machine
end

section
/-! # The response law (10 R168, R169, 07 R112, R115)

The law speaks of each lane apart: of its response queue and its staging area. -/

namespace Sys2Proof.Machine

/-- The law for one lane. -/
structure QueueLawful (queue : List ResponseSlot) (area : StagingArea) : Prop where
  depth : queue.length ≤ 4
  single : queue.countP ResponseSlot.isReservation ≤ 1
  inFlight : queue.countP ResponseSlot.isReservation = 1 → area.state = .sealing
  digest : area.digest.isSome = true ↔ area.state = .sealed
  timer : area.sealTimer.isSome = true ↔ area.state = .sealing

theorem responseLaw_iff (s : State) :
    ResponseLaw s ↔ ∀ l, QueueLawful (s.ports.row l).queue (s.staging.row l) :=
  forall_congr' fun _ => ⟨fun ⟨depth, single, inFlight, digest, timer⟩ => ⟨depth, single, inFlight, digest, timer⟩,
    fun law => ⟨law.depth, law.single, law.inFlight, law.digest, law.timer⟩⟩

/-- A seal's response takes the place of its reservation, the first of the queue. -/
theorem countP_fillReservation (fill : Byte → Byte → Response) (queue : List ResponseSlot) :
    (State.fillReservation fill queue).countP ResponseSlot.isReservation
      = queue.countP ResponseSlot.isReservation - 1 := by
  induction queue with
  | nil => rfl
  | cons slot rest ih =>
    cases slot with
    | response r => simpa [State.fillReservation, ResponseSlot.isReservation] using ih
    | reservation k q => simp [State.fillReservation, List.countP_cons, ResponseSlot.isReservation]

namespace QueueLawful

variable {queue : List ResponseSlot} {area : StagingArea}

theorem append_response (law : QueueLawful queue area) (free : queue.length < 4) (r : Response) :
    QueueLawful (queue ++ [.response r]) area where
  depth := by simpa using free
  single := by simpa [ResponseSlot.isReservation] using law.single
  inFlight := by simpa [ResponseSlot.isReservation] using law.inFlight
  digest := law.digest
  timer := law.timer

/-- The bytes of the image do not matter. -/
theorem written (law : QueueLawful queue area) (offset : Nat) (data : List Byte) :
    QueueLawful queue (area.written offset data) :=
  ⟨law.depth, law.single, law.inFlight, law.digest, law.timer⟩

/-- No reservation stands in a queue whose area has no seal in flight (10 R169). -/
theorem no_reservation (law : QueueLawful queue area) (idle : area.state ≠ .sealing) :
    queue.countP ResponseSlot.isReservation = 0 := by
  have single := law.single
  have inFlight := mt law.inFlight idle
  omega

theorem reserve (law : QueueLawful queue area) (free : queue.length < 4) (opened : area.state = .opened)
    (k q : Byte) : QueueLawful (queue ++ [.reservation k q]) area.beginSeal where
  depth := by simpa using free
  single := by simp [law.no_reservation (by simp [opened]), ResponseSlot.isReservation]
  inFlight _ := rfl
  digest := by
    have none : ¬ area.digest.isSome = true := fun some => by simp [law.digest.mp some] at opened
    simpa [StagingArea.beginSeal] using none
  timer := by simp [StagingArea.beginSeal]

theorem reopened (law : QueueLawful queue area) (isSealed : area.state = .sealed) :
    QueueLawful queue area.reopened where
  depth := law.depth
  single := law.single
  inFlight one := by
    have none := law.no_reservation (by simp [isSealed])
    omega
  digest := by simp [StagingArea.reopened]
  timer := by
    have stopped : ¬ area.sealTimer.isSome = true := fun runs => by simp [law.timer.mp runs] at isSealed
    simpa [StagingArea.reopened] using stopped

theorem flushed (law : QueueLawful queue area) (r : Response) : QueueLawful [.response r] area where
  depth := by simp
  single := by simp [ResponseSlot.isReservation]
  inFlight one := by simp [ResponseSlot.isReservation] at one
  digest := law.digest
  timer := law.timer

theorem delivered (law : QueueLawful queue area) : QueueLawful (queue.drop 1) area where
  depth := Nat.le_trans (by simp) law.depth
  single := Nat.le_trans (List.Sublist.countP_le (List.drop_sublist 1 queue)) law.single
  inFlight one := by
    have most := List.Sublist.countP_le (p := ResponseSlot.isReservation) (List.drop_sublist 1 queue)
    exact law.inFlight (Nat.le_antisymm law.single (one ▸ most))
  digest := law.digest
  timer := law.timer

theorem completed (law : QueueLawful queue area) (fill : Byte → Byte → Response) :
    QueueLawful (State.fillReservation fill queue) area.completed where
  depth := by simpa [State.length_fillReservation] using law.depth
  single := by
    have single := law.single
    rw [countP_fillReservation]
    omega
  inFlight one := by
    have single := law.single
    rw [countP_fillReservation] at one
    omega
  digest := by
    unfold StagingArea.completed
    split <;> simp
  timer := by
    unfold StagingArea.completed
    split <;> simp

theorem later (law : QueueLawful queue area) :
    QueueLawful queue { area with sealTimer := Timer.later area.sealTimer } where
  depth := law.depth
  single := law.single
  inFlight := law.inFlight
  digest := law.digest
  timer := by simpa [Timer.later] using law.timer

/-- A request taken from the lane: its slot is appended, and its owner may write the staging area. -/
theorem served {staging : Staging} {l : Lane} {b : Blocks} {served : Served}
    (law : QueueLawful queue (staging.row l)) (free : queue.length < 4) (effect : ServedEffect b staging l served)
    (s : State) (k q : Byte) : QueueLawful (queue ++ [s.slotFor l k q served.answer]) (served.staging.row l) := by
  cases effect with
  | answered after o payload gap => exact law.append_response free _
  | written offset data _ => simpa [unchanged, State.slotFor] using (law.written offset data).append_response free _
  | sealing opened => simpa [State.slotFor] using law.reserve free opened k q
  | reopened isSealed => simpa [unchanged, State.slotFor] using (law.reopened isSealed).append_response free _

end QueueLawful

/-- An owner writes no staging area but that of the lane the request comes from. -/
theorem ServedEffect.staging_of_ne {b : Blocks} {staging : Staging} {l m : Lane} {served : Served}
    (effect : ServedEffect b staging l served) (other : l ≠ m) : served.staging.row m = staging.row m := by
  cases effect with
  | answered after o payload gap => rfl
  | _ => exact Table.row_put_of_ne _ other _

namespace ResponseLaw

/-- Ports and staging areas are all the law reads. -/
theorem inside {s t : State} (law : ResponseLaw s) (queues : ∀ l, (t.ports.row l).queue = (s.ports.row l).queue)
    (staging : t.staging = s.staging) : ResponseLaw t := by
  intro l
  rw [queues l, staging]
  exact law l

/-- One lane's port written. -/
theorem setPort {s : State} (law : ResponseLaw s) (l : Lane) {p : Port}
    (lawful : QueueLawful p.queue (s.staging.row l)) : ResponseLaw (s.setPort l p) := by
  refine (responseLaw_iff _).mpr fun m => ?_
  by_cases same : l = m
  · subst same
    simpa using lawful
  · simpa [Table.row_put_of_ne _ same] using (responseLaw_iff s).mp law m

theorem updateAttn {s : State} (law : ResponseLaw s) : ResponseLaw s.updateAttn := law.inside (by simp) rfl

theorem takeRequest {s : State} (law : ResponseLaw s) {l : Lane} (free : (s.ports.row l).queue.length < 4) {k q : Byte}
    {handle : Handler} (effect : ServedEffect s.toBlocks s.staging l (handle s.toBlocks s.staging)) :
    ResponseLaw (s.takeRequest l k q handle) := by
  refine (responseLaw_iff _).mpr fun m => ?_
  have lawful := (responseLaw_iff s).mp law m
  by_cases same : l = m
  · subst same
    rw [s.takeRequest_queue]
    exact lawful.served free effect _ k q
  · rw [s.takeRequest_other l m k q handle same, (s.takeRequest_kept l k q handle).2.1, effect.staging_of_ne same]
    exact lawful

theorem settleDelivery {s : State} (law : ResponseLaw s) (l : Lane) (delivered : Bool) :
    ResponseLaw (s.settleDelivery l delivered) := by
  have lawful := (responseLaw_iff s).mp law l
  refine updateAttn (law.setPort l ?_)
  cases delivered
  · exact lawful
  · exact lawful.delivered

theorem completeSeal {s : State} (law : ResponseLaw s) (l : Lane) : ResponseLaw (s.completeSeal l) := by
  refine (responseLaw_iff _).mpr fun m => ?_
  have lawful := (responseLaw_iff s).mp law m
  by_cases same : l = m
  · subst same
    simpa [State.completeSeal] using lawful.completed _
  · simpa [State.completeSeal, Table.row_put_of_ne _ same] using lawful

theorem resetTo (s : State) (record : Option LockoutRecord) (power : Power) : ResponseLaw (s.resetTo record power) := by
  intro l
  simp [Port.afterReset, Port.reset, StagingArea.reset]

theorem frame {s t : State} {l : Lane} (law : ResponseLaw s) (effect : FrameEffect s l t) : ResponseLaw t := by
  cases effect with
  | discarded => exact law
  | refused o q => exact law.setPort l ((responseLaw_iff s).mp law l)
  | taken k q kind p evalB free => exact law.takeRequest free (servedEffect_handlerOf ..)
  | linkReset k q => exact (law.setPort l (((responseLaw_iff s).mp law l).flushed _)).updateAttn

theorem event {s t : State} (law : ResponseLaw s) (event : StateEvent s t) : ResponseLaw t := by
  cases event with
  | unchanged => exact law
  | transaction l x _ => exact law.setPort l ((responseLaw_iff s).mp law l)
  | frame l _ effect => exact law.frame effect
  | released l delivered _ effect => exact (law.settleDelivery l delivered).frame effect
  | expired n evalB _ =>
    rcases s.expire_cases evalB n with ⟨l, -, done⟩ | ⟨staging, ports⟩
    · rw [done]
      exact (law.completeSeal l).updateAttn
    · exact (law.inside (fun l => by rw [ports]) staging).updateAttn
  | completed l left _ => exact (law.completeSeal l).updateAttn
  | readback c level _ => exact law.inside (fun _ => rfl) rfl
  | storeCheck _ _ => exact updateAttn (s := s.setBlocks _) (law.inside (fun _ => rfl) rfl)
  | later _ =>
    refine (responseLaw_iff _).mpr fun l => ?_
    simpa [State.timersLater] using ((responseLaw_iff s).mp law l).later

end ResponseLaw

/-- Settles O11: every event keeps the queue and the staging area of each lane lawful. -/
theorem responseLawKept : Obligations.ResponseLawKept :=
  fun _ _ law next => step_keeps (P := ResponseLaw) (fun _ _ _ law => law)
    (fun s record power _ => .resetTo s record power) (fun _ _ law happens => law.event happens) law next

end Sys2Proof.Machine
end

section
/-! # Lane records and vetoes after the operations on lanes (04 R65 to R73) -/

namespace Sys2Proof.Machine

namespace Blocks

/-! ## A change of lane state -/

/-- A lane's record written with its veto set dropped when the lane goes ABSENT or EXCLUDED (08 R131): a change of lane
state before drives, notices and ballots follow. -/
def placeLane (b : Blocks) (l : Lane) (r : LaneRecord) : Blocks :=
  if losesVetoes r.state then (b.setLane l r).dropVetoes l else b.setLane l r

@[simp] theorem placeLane_kept (b : Blocks) (l : Lane) (r : LaneRecord) :
    (b.placeLane l r).device = b.device ∧ (b.placeLane l r).vote = b.vote ∧
    (b.placeLane l r).lanes = b.lanes.put l r ∧ (b.placeLane l r).ballots = b.ballots ∧
    (b.placeLane l r).active = b.active ∧ (b.placeLane l r).pendingRecord = b.pendingRecord ∧
    (b.placeLane l r).output.channels = b.output.channels := by
  unfold placeLane
  split <;> exact ⟨rfl, rfl, rfl, rfl, rfl, rfl, rfl⟩

@[simp] theorem vetoes_placeLane (b : Blocks) (l : Lane) (r : LaneRecord) : (b.placeLane l r).output.vetoes =
    if losesVetoes r.state then b.output.vetoes.put l 0 else b.output.vetoes := by
  unfold placeLane
  split <;> rfl

theorem vetoes_vetoStep (b : Blocks) (l : Lane) (new : LaneState) (recompute : Bool) :
    (b.vetoStep l new recompute).output.vetoes = if losesVetoes new then b.output.vetoes.put l 0 else b.output.vetoes := by
  unfold vetoStep
  split
  · split <;> rfl
  · rfl

@[simp] theorem vetoes_moveLane (b : Blocks) (l : Lane) (r : LaneRecord) (cause : MemberCause) (recompute : Bool) :
    (b.moveLane l r cause recompute).output.vetoes
      = if losesVetoes r.state then b.output.vetoes.put l 0 else b.output.vetoes := by
  simp only [moveLane, supporterStep_kept, post_kept, readerStep_kept, vetoes_vetoStep]
  rfl

/-! ## The dissent report of a close (04 R67, R68) -/

/-- The record of a lane named in the report, by whether it dissented (04 R67). -/
def struckRecord (r : LaneRecord) (dissented : Bool) : LaneRecord :=
  { r with strikes := if dissented then r.strikes + 1 else r.strikes - 1 }

theorem lanes_applyStrike (b : Blocks) (entry : Lane × Bool) : (b.applyStrike entry).lanes
    = b.lanes.put entry.1 (struckRecord (b.lanes.row entry.1) entry.2) := rfl

theorem row_foldl_applyStrike_of_not_mem {report : List (Lane × Bool)} {l : Lane} (other : l ∉ report.map Prod.fst)
    (b : Blocks) : (report.foldl applyStrike b).lanes.row l = b.lanes.row l := by
  induction report generalizing b with
  | nil => rfl
  | cons entry rest ih =>
    rw [List.map_cons, List.mem_cons, not_or] at other
    obtain ⟨apart, other⟩ := other
    rw [List.foldl_cons, ih other, lanes_applyStrike, Table.row_put_of_ne _ (Ne.symm apart)]

theorem row_foldl_applyStrike_of_mem {report : List (Lane × Bool)} (different : (report.map Prod.fst).Nodup)
    {l : Lane} {dissented : Bool} (named : (l, dissented) ∈ report) (b : Blocks) :
    (report.foldl applyStrike b).lanes.row l = struckRecord (b.lanes.row l) dissented := by
  induction report generalizing b with
  | nil => cases named
  | cons entry rest ih =>
    rw [List.map_cons, List.nodup_cons] at different
    obtain ⟨apart, different⟩ := different
    rw [List.foldl_cons]
    rcases List.mem_cons.mp named with rfl | later
    · rw [row_foldl_applyStrike_of_not_mem apart, lanes_applyStrike, Table.row_put_self]
    · have other : entry.1 ≠ l := fun same => apart (same ▸ List.mem_map_of_mem later)
      rw [ih different later, lanes_applyStrike, Table.row_put_of_ne _ other]

/-- The lane is named and its count has reached the threshold (04 R68). -/
abbrev AtThreshold (b : Blocks) (named : List Lane) (l : Lane) : Prop :=
  l ∈ named ∧ b.config.strikeThreshold ≤ (b.lanes.row l).strikes

theorem lanes_excludeAtThreshold (b : Blocks) (l : Lane) : (b.excludeAtThreshold l).lanes =
    if b.config.strikeThreshold ≤ (b.lanes.row l).strikes then b.lanes.put l (excludedRecord (b.lanes.row l))
    else b.lanes := by
  unfold excludeAtThreshold
  split <;> simp

theorem vetoes_excludeAtThreshold (b : Blocks) (l : Lane) : (b.excludeAtThreshold l).output.vetoes =
    if b.config.strikeThreshold ≤ (b.lanes.row l).strikes then b.output.vetoes.put l 0 else b.output.vetoes := by
  unfold excludeAtThreshold
  split
  · simp [excludedRecord, losesVetoes]
  · rfl

/-- An exclusion does not bring a lane to the threshold nor take it below. -/
theorem strikes_excludeAtThreshold (b : Blocks) (l m : Lane) :
    ((b.excludeAtThreshold l).lanes.row m).strikes = (b.lanes.row m).strikes := by
  rw [lanes_excludeAtThreshold]
  split
  · rw [Table.row_put]
    split
    · rename_i same
      rw [same]
      rfl
    · rfl
  · rfl

theorem row_foldl_excludeAtThreshold (named : List Lane) (b : Blocks) (l : Lane) :
    (named.foldl excludeAtThreshold b).lanes.row l =
      if AtThreshold b named l then excludedRecord (b.lanes.row l) else b.lanes.row l := by
  induction named generalizing b with
  | nil => simp
  | cons m rest ih =>
    have config : (b.excludeAtThreshold m).config = b.config := config_congr (by simp)
    rw [List.foldl_cons, ih]
    simp only [AtThreshold, config, lanes_excludeAtThreshold, List.mem_cons]
    by_cases same : l = m
    · subst same
      by_cases reached : b.config.strikeThreshold ≤ (b.lanes.row l).strikes
      · simp [reached, excludedRecord]
      · simp [reached]
    · by_cases reached : b.config.strikeThreshold ≤ (b.lanes.row m).strikes
      · simp [same, reached, Table.row_put_of_ne _ (Ne.symm same)]
      · simp [same, reached]

theorem vetoes_foldl_excludeAtThreshold (named : List Lane) (b : Blocks) (l : Lane) :
    (named.foldl excludeAtThreshold b).output.vetoes.row l =
      if AtThreshold b named l then 0 else b.output.vetoes.row l := by
  induction named generalizing b with
  | nil => simp
  | cons m rest ih =>
    have config : (b.excludeAtThreshold m).config = b.config := config_congr (by simp)
    rw [List.foldl_cons, ih]
    simp only [AtThreshold, config, strikes_excludeAtThreshold, vetoes_excludeAtThreshold, List.mem_cons]
    by_cases same : l = m
    · subst same
      by_cases reached : b.config.strikeThreshold ≤ (b.lanes.row l).strikes
      · simp [reached]
      · simp [reached]
    · by_cases reached : b.config.strikeThreshold ≤ (b.lanes.row m).strikes
      · simp [same, reached, Table.row_put_of_ne _ (Ne.symm same)]
      · simp [same, reached]

/-- The blocks after the strikes and exclusions of a report, before the admissions. -/
def reported (b : Blocks) (report : List (Lane × Bool)) : Blocks :=
  (report.map Prod.fst).foldl excludeAtThreshold (report.foldl applyStrike b)

theorem applyReport_eq (b : Blocks) (report : List (Lane × Bool)) : b.applyReport report = (b.reported report).admitReady :=
  rfl

@[simp] theorem reported_kept (b : Blocks) (report : List (Lane × Bool)) :
    (b.reported report).device = b.device ∧ (b.reported report).lockoutRecord = b.lockoutRecord ∧
    (b.reported report).vote = b.vote ∧ (b.reported report).active = b.active ∧
    (b.reported report).pendingRecord = b.pendingRecord := by
  obtain ⟨device, record, -, vote, -, active, pending, -⟩ := b.foldl_applyStrike_kept report
  obtain ⟨device', record', -, vote', active', pending'⟩ :=
    (report.foldl applyStrike b).foldl_excludeAtThreshold_kept (report.map Prod.fst)
  exact ⟨device'.trans device, record'.trans record, vote'.trans vote, active'.trans active, pending'.trans pending⟩

section Report

variable {b : Blocks} {report : List (Lane × Bool)} {l : Lane} {dissented : Bool}

theorem output_foldl_applyStrike (b : Blocks) (report : List (Lane × Bool)) :
    (report.foldl applyStrike b).output = b.output := by
  obtain ⟨-, -, -, -, -, -, -, output, -⟩ := b.foldl_applyStrike_kept report
  exact output

theorem config_foldl_applyStrike (b : Blocks) (report : List (Lane × Bool)) :
    (report.foldl applyStrike b).config = b.config := by
  obtain ⟨-, -, -, -, -, active, -⟩ := b.foldl_applyStrike_kept report
  exact config_congr active

/-- A lane the report does not name keeps its record. -/
theorem row_reported_of_not_mem (other : l ∉ report.map Prod.fst) :
    (b.reported report).lanes.row l = b.lanes.row l := by
  rw [reported, row_foldl_excludeAtThreshold, if_neg fun ⟨named, _⟩ => other named,
    row_foldl_applyStrike_of_not_mem other]

/-- A lane the report names is struck, and EXCLUDED when that takes it to the threshold (04 R68). -/
theorem row_reported_of_mem (different : (report.map Prod.fst).Nodup) (named : (l, dissented) ∈ report) :
    (b.reported report).lanes.row l =
      if b.config.strikeThreshold ≤ (struckRecord (b.lanes.row l) dissented).strikes
      then excludedRecord (struckRecord (b.lanes.row l) dissented) else struckRecord (b.lanes.row l) dissented := by
  have member : l ∈ report.map Prod.fst := List.mem_map_of_mem named
  rw [reported, row_foldl_excludeAtThreshold]
  simp only [AtThreshold, config_foldl_applyStrike, row_foldl_applyStrike_of_mem different named, member, true_and]

theorem vetoes_reported_of_not_mem (other : l ∉ report.map Prod.fst) :
    (b.reported report).output.vetoes.row l = b.output.vetoes.row l := by
  rw [reported, vetoes_foldl_excludeAtThreshold, if_neg fun ⟨named, _⟩ => other named, output_foldl_applyStrike]

theorem vetoes_reported_of_mem (different : (report.map Prod.fst).Nodup) (named : (l, dissented) ∈ report) :
    (b.reported report).output.vetoes.row l =
      if b.config.strikeThreshold ≤ (struckRecord (b.lanes.row l) dissented).strikes then 0
      else b.output.vetoes.row l := by
  have member : l ∈ report.map Prod.fst := List.mem_map_of_mem named
  rw [reported, vetoes_foldl_excludeAtThreshold, output_foldl_applyStrike]
  simp only [AtThreshold, config_foldl_applyStrike, row_foldl_applyStrike_of_mem different named, member, true_and]

end Report

/-- The lanes the report of a close names are those that proposed and are VOTING (02 R34). -/
theorem has_inputLanes (b : Blocks) (l : Lane) :
    b.inputLanes.has l = true ↔ b.vote.proposers.has l = true ∧ b.laneState l = .voting := by
  simp [inputLanes, votingLanes]

theorem report_fst (b : Blocks) : b.evaluate.report.map Prod.fst = b.inputLanes.members := by
  simp [evaluate, Function.comp_def]

theorem nodup_report (b : Blocks) : (b.evaluate.report.map Prod.fst).Nodup :=
  b.report_fst ▸ IndexSet.members_nodup _

theorem mem_report_fst (b : Blocks) (l : Lane) :
    l ∈ b.evaluate.report.map Prod.fst ↔ b.vote.proposers.has l = true ∧ b.laneState l = .voting := by
  rw [report_fst, IndexSet.mem_members, has_inputLanes]

/-! ## A switch (04 R72) -/

/-- The record a switch to configuration `r` leaves to lane `l`, its strike count apart (04 R72). -/
def switchedRecord (r : ConfigRecord) (l : Lane) (before : LaneRecord) : LaneRecord :=
  if before.state = .absent then before
  else if r.enrolled.has l = false then absentRecord before
  else if before.state = .linked then { before with state := .candidate, lease := some r.lease } else before

theorem lanes_switchLane (b : Blocks) (l : Lane) :
    (b.switchLane l).lanes = b.lanes.put l (switchedRecord b.config l (b.lanes.row l)) := by
  unfold switchLane switchedRecord
  simp only [beq_iff_eq, Bool.not_eq_true']
  split
  · exact (Table.put_row _ _).symm
  split
  · simp
  split
  · simp
  · exact (Table.put_row _ _).symm

theorem switchedRecord_switchedRecord (r : ConfigRecord) (l : Lane) (before : LaneRecord) :
    switchedRecord r l (switchedRecord r l before) = switchedRecord r l before := by
  by_cases absent : before.state = .absent
  · simp [switchedRecord, absent]
  by_cases enrolled : r.enrolled.has l = false
  · simp [switchedRecord, absent, enrolled, absentRecord]
  by_cases linked : before.state = .linked
  · simp [switchedRecord, linked, enrolled]
  · simp [switchedRecord, absent, linked, enrolled]

theorem row_foldl_switchLane (ls : List Lane) (b : Blocks) (m : Lane) : (ls.foldl switchLane b).lanes.row m =
    if m ∈ ls then switchedRecord b.config m (b.lanes.row m) else b.lanes.row m := by
  induction ls generalizing b with
  | nil => simp
  | cons l rest ih =>
    have config : (b.switchLane l).config = b.config := config_congr (by simp)
    rw [List.foldl_cons, ih, config, lanes_switchLane, Table.row_put]
    by_cases same : l = m
    · subst same
      simp [switchedRecord_switchedRecord]
    · simp [same, Ne.symm same]

/-- The lane records after a switch. -/
theorem row_switchTo (b : Blocks) (p : PendingRecord) (l : Lane) : (b.switchTo p).lanes.row l
    = { switchedRecord (decodeConfig p.image) l (b.lanes.row l) with strikes := 0 } := by
  obtain ⟨d, switched, -, active, -, lanes⟩ := b.exists_switchTo_inputs p
  have config : d.config = decodeConfig p.image := by simp [Blocks.config, active]
  have recomputed : d.switchLanes.refreshOutputs.updateFailn.lanes = d.switchLanes.lanes := by simp
  rw [switched, recomputed, row_switchLanes, row_foldl_switchLane, if_pos (List.mem_finRange l), config, lanes]

theorem vetoes_switchLane (b : Blocks) (l m : Lane) : (b.switchLane l).output.vetoes.row m =
    if l = m ∧ b.laneState m ≠ .absent ∧ b.config.enrolled.has m = false then 0 else b.output.vetoes.row m := by
  by_cases same : l = m
  · subst same
    have state : (b.lanes.row l).state = b.laneState l := rfl
    unfold switchLane
    simp only [state]
    by_cases absent : b.laneState l = .absent
    · simp [absent]
    by_cases enrolled : b.config.enrolled.has l = true
    · by_cases linked : b.laneState l = .linked
      · simp [enrolled, linked, losesVetoes]
      · simp [absent, enrolled, linked]
    · simp [absent, enrolled, losesVetoes, absentRecord]
  · rw [if_neg fun ⟨again, _⟩ => same again]
    unfold switchLane
    simp only
    split
    · rfl
    split
    · simp [absentRecord, losesVetoes, Table.row_put_of_ne _ same]
    split
    · simp [losesVetoes]
    · rfl

/-- A lane that a switch takes to ABSENT keeps no veto. -/
theorem vetoes_foldl_switchLane (ls : List Lane) (b : Blocks) (m : Lane) :
    (ls.foldl switchLane b).output.vetoes.row m =
      if m ∈ ls ∧ b.laneState m ≠ .absent ∧ b.config.enrolled.has m = false then 0
      else b.output.vetoes.row m := by
  induction ls generalizing b with
  | nil => simp
  | cons l rest ih =>
    have config : (b.switchLane l).config = b.config := config_congr (by simp)
    rw [List.foldl_cons, ih, config, vetoes_switchLane, laneState_switchLane]
    by_cases same : l = m
    · subst same
      by_cases leaves : b.laneState l ≠ .absent ∧ b.config.enrolled.has l = false
      · simp [leaves]
      · by_cases absent : b.laneState l = .absent
        · by_cases enrolled : b.config.enrolled.has l = true <;> simp [absent, enrolled, switchedState]
        · have enrolled : b.config.enrolled.has l = true := by simpa [absent] using leaves
          simp [enrolled]
    · simp [same, Ne.symm same]

/-- A switch drops the veto set of each lane that it takes to ABSENT, and every veto on a channel the new configuration
does not use (07 R125). -/
theorem vetoes_switchTo (b : Blocks) (p : PendingRecord) (l : Lane) : (b.switchTo p).output.vetoes.row l =
    if b.laneState l ≠ .absent ∧ (decodeConfig p.image).enrolled.has l = false then 0
    else IndexSet.ofPred fun c => (b.output.vetoes.row l).has c
      && ((decodeConfig p.image).entries.row c).type != .unused := by
  have before : ((b.switchedInputs p).post (.configSwitched (b.active.map ActiveConfig.digest)
      p.digest)).discardBallots.output.vetoes.row l = IndexSet.ofPred fun c => (b.output.vetoes.row l).has c
      && ((decodeConfig p.image).entries.row c).type != .unused := by
    simp only [discardBallots_kept, post_kept]
    exact Table.row_mapRows ..
  have lane : ((b.switchedInputs p).post (.configSwitched (b.active.map ActiveConfig.digest)
      p.digest)).discardBallots.laneState l = b.laneState l := laneState_congr (by simp [switchedInputs]) l
  have config : ((b.switchedInputs p).post (.configSwitched (b.active.map ActiveConfig.digest)
      p.digest)).discardBallots.config = decodeConfig p.image := by simp [Blocks.config, switchedInputs]
  rw [switchTo_eq]
  simp only [updateFailn_kept, refreshOutputs_vetoes, switchLanes]
  rw [vetoes_foldl_switchLane, lane, config, before]
  simp only [List.mem_finRange, true_and]

end Blocks

end Sys2Proof.Machine
end

section
/-! # What an event can do to round, lanes, images, ballots and settle timers

An event of the blocks is a chain of the steps of `Runs`, each small enough that one law speaks of a few of them:
whatever they all keep, every event keeps. -/

namespace Sys2Proof.Machine

/-! ## The relations a step is made of -/

/-- What happens to the settle timer of a channel in an event that leaves blocks `d`: it runs on under the drive it had,
stops, or starts with the settle time of a channel in use (08 R135). -/
def SettleMoves (d : Blocks) (c : Channel) (before after : ChannelOutput) : Prop :=
  (after.drive = before.drive ∧ after.settle = before.settle) ∨ after.settle = none ∨
    (d.channelType c ≠ .unused ∧ after.settle = some (d.entry c).settleTime)

/-- Every ballot is one of those before, its supporters no others (06 R105). -/
def BallotsThin (b d : Blocks) : Prop :=
  ∀ y ∈ d.ballots, ∃ x ∈ b.ballots, x.action = y.action ∧
    ∀ l, y.supporters.has l = true → x.supporters.has l = true

/-- The parts of the vote engine that the round law speaks of are the same. -/
def SameRound (v w : VoteEngine) : Prop :=
  v.openRound = w.openRound ∧ v.deadline = w.deadline ∧ v.proposals = w.proposals ∧ v.proposers = w.proposers

/-- Device state, round, lane records, configuration and vetoes stand. -/
structure Aside (b d : Blocks) : Prop where
  device : d.device = b.device
  round : SameRound d.vote b.vote
  lanes : d.lanes = b.lanes
  active : d.active = b.active
  pending : d.pendingRecord = b.pendingRecord
  vetoes : d.output.vetoes = b.output.vetoes
  settles : ∀ c, SettleMoves d c (b.channelOutput c) (d.channelOutput c)
  ballots : BallotsThin b d

/-- The lane holds the image of a configuration, or supports the ballot for it (06 R97). -/
def Carried (staging : Staging) (b : Blocks) (l : Lane) (d : Digest) : Prop :=
  (staging.row l).carries d = true ∨ ∃ x ∈ b.ballots, x.action = .commitConfig d ∧ x.supporters.has l = true

/-- The records a lane's own timers and requests write, its state standing (04 R57, R60, R63). -/
inductive LaneWrite (b : Blocks) (l : Lane) : LaneRecord → Prop
  | renewed (lease : Nat) (state : b.laneState l = .candidate ∨ b.laneState l = .voting ∨
      (b.laneState l = .suspect ∧ (b.lanes.row l).returnPending = true)) :
      LaneWrite b l { b.lanes.row l with lease := some lease }
  | returned (lease : Nat) (state : b.laneState l = .suspect) :
      LaneWrite b l { b.lanes.row l with returnPending := true, grace := none, lease := some lease }
  | lapsed (grace : Nat) (state : b.laneState l = .suspect) :
      LaneWrite b l { b.lanes.row l with returnPending := false, lease := none, grace := some grace }
  | rejoining (state : b.laneState l = .excluded) : LaneWrite b l { b.lanes.row l with rejoinRequested := true }

/-- The changes of lane state but those of a close and of a switch (04 R55). -/
inductive LaneMove (b : Blocks) (l : Lane) : LaneRecord → Prop
  | linked (state : b.laneState l = .absent) (unconfigured : b.device = .unconfigured) :
      LaneMove b l { b.lanes.row l with state := .linked }
  | joined (lease : Nat) (state : b.laneState l = .absent) (enrolled : b.config.enrolled.has l = true) :
      LaneMove b l { b.lanes.row l with state := .candidate, lease := some lease }
  | admitted (ready : b.readyForAdmission l = true) :
      LaneMove b l { b.lanes.row l with state := .voting, returnPending := false }
  | left (present : b.laneState l ≠ .absent) (member : b.laneState l ≠ .excluded) :
      LaneMove b l (Blocks.absentRecord (b.lanes.row l))
  | suspected (grace : Nat) (state : b.laneState l = .voting) :
      LaneMove b l { b.lanes.row l with state := .suspect, lease := none, grace := some grace, returnPending := false }
  | excluded (state : b.laneState l = .suspect) : LaneMove b l (Blocks.excludedRecord (b.lanes.row l))
  | readmitted (lease : Nat) (state : b.laneState l = .excluded) :
      LaneMove b l { b.lanes.row l with
        state := .candidate, strikes := 0, rejoinRequested := false, lease := some lease }

/-- The lane records, vetoes, drives and ballots after the report of a close, before the admissions (04 R67, R68): a lane
whose strike count changes was VOTING, and stays below the threshold or goes EXCLUDED. -/
structure ReportTaken (b d : Blocks) : Prop where
  device : d.device = b.device
  vote : d.vote = b.vote
  active : d.active = b.active
  pending : d.pendingRecord = b.pendingRecord
  lanes : ∀ l, d.lanes.row l = b.lanes.row l ∨ (b.laneState l = .voting ∧
    ∃ strikes, strikes ≤ (b.lanes.row l).strikes + 1 ∧
      ((strikes < b.config.strikeThreshold ∧ d.lanes.row l = { b.lanes.row l with strikes := strikes }) ∨
        d.lanes.row l = Blocks.excludedRecord { b.lanes.row l with strikes := strikes }))
  vetoes : ∀ l c, (d.output.vetoes.row l).has c = true →
    (b.output.vetoes.row l).has c = true ∧ d.laneState l = b.laneState l
  settles : ∀ c, SettleMoves d c (b.channelOutput c) (d.channelOutput c)
  ballots : BallotsThin b d

/-- An open round with nothing proposed (02 R16, R17). -/
def RoundOpened (v : VoteEngine) : Prop :=
  v.openRound = .idle ∧ v.deadline = none ∧ ∀ l c, (v.proposals.row l).row c = none

/-- The changes of the open round, with the device state they leave (02 R16, 05 R78). -/
inductive RoundMove (b : Blocks) : VoteEngine → DeviceState → Prop
  | committed {v : VoteEngine} (open_ : b.vote.openRound = .collecting ∨ b.vote.deadline.isSome = true)
      (opened : RoundOpened v) : RoundMove b v b.device
  | proposed (l : Lane) (entries : List (Channel × Nat)) (running : b.device = .running) :
      RoundMove b (b.storeProposal l entries).vote b.device
  | opened {v : VoteEngine} (idle : b.device = .gathering ∨ b.device = .safeHold) (opened : RoundOpened v) :
      RoundMove b v .running
  | discarded (running : b.device = .running) : RoundMove b b.safeHoldInputs.vote .safeHold
  | abandoned : RoundMove b { b.vote with openRound := .none, deadline := none } .lockout

/-- The device state after a switch: the first one ends UNCONFIGURED (05 R80). -/
def Blocks.deviceAfterSwitch (b : Blocks) : DeviceState :=
  if b.device = .unconfigured then .gathering else b.device

/-- What a switch to a pending record leaves (07 R124). -/
structure Switched (b : Blocks) (p : PendingRecord) (d : Blocks) : Prop where
  device : d.device = b.deviceAfterSwitch
  round : SameRound d.vote b.vote
  active : d.active = some ⟨decodeConfig p.image, p.digest⟩
  pending : d.pendingRecord = none
  lanes : ∀ l, d.lanes.row l
    = { Blocks.switchedRecord (decodeConfig p.image) l (b.lanes.row l) with strikes := 0 }
  vetoes : ∀ l, d.output.vetoes.row l =
    if b.laneState l ≠ .absent ∧ (decodeConfig p.image).enrolled.has l = false then 0
    else IndexSet.ofPred fun c => (b.output.vetoes.row l).has c
      && ((decodeConfig p.image).entries.row c).type != .unused
  settles : ∀ c, SettleMoves d c (b.channelOutput c) (d.channelOutput c)
  ballots : d.ballots = []

/-! ## The chain -/

/-- The blocks come from `a` by the steps listed; the staging areas stand. -/
inductive Runs (staging : Staging) (a : Blocks) : Blocks → Prop
  | refl : Runs staging a a
  | aside {b d : Blocks} (h : Runs staging a b) (kept : Aside b d) : Runs staging a d
  /-- A SUPPORT gives ballots supporters that hold their images (06 R97). -/
  | ballots {b : Blocks} (h : Runs staging a b) (table : List Ballot)
      (carried : TableLawful a → ∀ y ∈ table, ∀ e, y.action = .commitConfig e → ∀ l, y.supporters.has l = true →
        Carried staging b l e) : Runs staging a { b with ballots := table }
  /-- A COMMIT_CONFIG ballot that was open before the event, or its passing supporter, brings the pending record. -/
  | pending {b : Blocks} (h : Runs staging a b) (l : Lane) (d : Digest) (carried : Carried staging a l d) :
      Runs staging a { b with pendingRecord := some ⟨(staging.row l).image, d⟩ }
  | dropPending {b : Blocks} (h : Runs staging a b) : Runs staging a { b with pendingRecord := none }
  | writeLane {b : Blocks} (h : Runs staging a b) {l : Lane} {r : LaneRecord} (write : LaneWrite b l r) :
      Runs staging a (b.setLane l r)
  | placeLane {b : Blocks} (h : Runs staging a b) {l : Lane} {r : LaneRecord} (move : LaneMove b l r) :
      Runs staging a (b.placeLane l r)
  | restartLeases {b : Blocks} (h : Runs staging a b) : Runs staging a b.restartVotingLeases
  | report {b d : Blocks} (h : Runs staging a b) (taken : ReportTaken b d) : Runs staging a d
  | veto {b : Blocks} (h : Runs staging a b) (l : Lane) (set : ChannelSet)
      (configured : b.device ≠ .lockout ∧ b.device ≠ .unconfigured)
      (member : b.laneState l ≠ .absent ∧ b.laneState l ≠ .excluded)
      (used : ∀ c, set.has c = true → (b.output.vetoes.row l).has c = true ∨ b.channelType c ≠ .unused) :
      Runs staging a { b with output := { b.output with vetoes := b.output.vetoes.put l set } }
  | round {b : Blocks} (h : Runs staging a b) {v : VoteEngine} {next : DeviceState} (move : RoundMove b v next) :
      Runs staging a { b with vote := v, device := next }
  | switched {b d : Blocks} (h : Runs staging a b) {p : PendingRecord} (pending : b.pendingRecord = some p)
      (switched : Switched b p d) : Runs staging a d

/-! ## Steps aside -/

section

variable {b d e : Blocks}

theorem SameRound.refl (v : VoteEngine) : SameRound v v := ⟨rfl, rfl, rfl, rfl⟩

theorem SameRound.trans {u v w : VoteEngine} (h : SameRound u v) (k : SameRound v w) : SameRound u w := by
  obtain ⟨openRound, deadline, proposals, proposers⟩ := h
  obtain ⟨openRound', deadline', proposals', proposers'⟩ := k
  exact ⟨openRound.trans openRound', deadline.trans deadline', proposals.trans proposals', proposers.trans proposers'⟩

theorem BallotsThin.of_same (same : d.ballots = b.ballots) : BallotsThin b d :=
  fun y listed => ⟨y, same ▸ listed, rfl, fun _ => id⟩

theorem BallotsThin.of_nil (none : d.ballots = []) : BallotsThin b d := by
  intro y listed
  rw [none] at listed
  cases listed

theorem BallotsThin.trans (h : BallotsThin b d) (k : BallotsThin d e) : BallotsThin b e := by
  intro z listed
  obtain ⟨y, between, action, supports⟩ := k z listed
  obtain ⟨x, first, action', supports'⟩ := h y between
  exact ⟨x, first, action'.trans action, fun l member => supports' l (supports l member)⟩

theorem ballotsThin_removeSupporter (b : Blocks) (l : Lane) (concerned : Ballot → Bool) :
    BallotsThin b (b.removeSupporter l concerned) := by
  intro y listed
  rw [Blocks.ballots_removeSupporter, List.mem_filter, List.mem_map] at listed
  obtain ⟨⟨x, old, rfl⟩, -⟩ := listed
  refine ⟨x, old, by split <;> rfl, fun m supports => ?_⟩
  split at supports
  · rw [IndexSet.has_erase, Bool.and_eq_true] at supports
    obtain ⟨member, -⟩ := supports
    exact member
  · exact supports

theorem ballotsThin_removeBallot (b : Blocks) (slot : BallotSlot) : BallotsThin b (b.removeBallot slot) := by
  intro y listed
  obtain ⟨old, -⟩ := List.mem_filter.mp listed
  exact ⟨y, old, rfl, fun _ => id⟩

/-- What happens to a settle timer depends on the configuration alone. -/
theorem SettleMoves.congr {c : Channel} {o p : ChannelOutput} (h : SettleMoves d c o p) (active : e.active = d.active) :
    SettleMoves e c o p := by
  unfold SettleMoves at h ⊢
  rwa [Blocks.channelType_congr active, Blocks.entry_congr active]

theorem SettleMoves.of_same {c : Channel} {o p : ChannelOutput} (drive : p.drive = o.drive)
    (settle : p.settle = o.settle) : SettleMoves d c o p := .inl ⟨drive, settle⟩

theorem SettleMoves.trans {c : Channel} {o p q : ChannelOutput} (h : SettleMoves d c o p) (k : SettleMoves d c p q) :
    SettleMoves d c o q := by
  rcases k with ⟨drive, settle⟩ | stopped
  · unfold SettleMoves at h ⊢
    rwa [drive, settle]
  · exact .inr stopped

/-- A recomputed drive that changes starts the settle timer, or stops it when the channel is out of use (01 R10). -/
theorem settleMoves_refreshedOutput (b : Blocks) (c : Channel) :
    SettleMoves b c (b.channelOutput c) (b.refreshedOutput c) := by
  have settle : (b.refreshedOutput c).settle = settleAfter (b.channelOutput c).drive (b.channelOutput c).settle
      (b.driveOf c) (b.entry c).settleTime := ChannelOutput.driveTo_settle ..
  unfold settleAfter at settle
  split at settle
  · rename_i same
    exact .inl ⟨by rw [Blocks.refreshedOutput_drive, same], settle⟩
  split at settle
  · exact .inr (.inl settle)
  · rename_i used
    refine .inr (.inr ⟨fun unused => used ?_, settle⟩)
    simp [Blocks.driveOf, unused, Drive.off]

/-- A step after which device state, vote engine, lanes, configuration, outputs and ballots are the same. -/
theorem Aside.of_same (device : d.device = b.device) (vote : d.vote = b.vote) (lanes : d.lanes = b.lanes)
    (active : d.active = b.active) (pending : d.pendingRecord = b.pendingRecord) (output : d.output = b.output)
    (ballots : d.ballots = b.ballots) : Aside b d where
  device := device
  round := vote ▸ .refl _
  lanes := lanes
  active := active
  pending := pending
  vetoes := by rw [output]
  settles c := by rw [Blocks.channelOutput_congr output]; exact .of_same rfl rfl
  ballots := .of_same ballots

theorem Aside.trans (h : Aside b d) (k : Aside d e) : Aside b e where
  device := k.device.trans h.device
  round := k.round.trans h.round
  lanes := k.lanes.trans h.lanes
  active := k.active.trans h.active
  pending := k.pending.trans h.pending
  vetoes := k.vetoes.trans h.vetoes
  settles c := ((h.settles c).congr k.active).trans (k.settles c)
  ballots := h.ballots.trans k.ballots

theorem aside_refreshOutputs (b : Blocks) : Aside b b.refreshOutputs where
  device := rfl
  round := .refl _
  lanes := rfl
  active := rfl
  pending := rfl
  vetoes := rfl
  settles c := by
    rw [Blocks.channelOutput_refreshOutputs]
    exact (settleMoves_refreshedOutput b c).congr rfl
  ballots := .of_same rfl

/-- One channel's output written. -/
theorem aside_setChannelOutput {c : Channel} {o : ChannelOutput} (moves : SettleMoves b c (b.channelOutput c) o) :
    Aside b (b.setChannelOutput c o) where
  device := rfl
  round := .refl _
  lanes := rfl
  active := rfl
  pending := rfl
  vetoes := rfl
  settles e := by
    by_cases same : e = c
    · subst same
      rw [Blocks.channelOutput_setChannelOutput_self]
      exact moves.congr rfl
    · rw [Blocks.channelOutput_setChannelOutput_of_ne b same]
      exact .of_same rfl rfl
  ballots := .of_same rfl

theorem aside_refreshChannel (b : Blocks) (c : Channel) : Aside b (b.refreshChannel c) :=
  aside_setChannelOutput (settleMoves_refreshedOutput b c)

theorem aside_removeSupporter (b : Blocks) (l : Lane) (concerned : Ballot → Bool) :
    Aside b (b.removeSupporter l concerned) where
  device := by simp
  round := by simp [SameRound]
  lanes := by simp
  active := by simp
  pending := by simp
  vetoes := by simp
  settles c := by
    have output : (b.removeSupporter l concerned).channelOutput c = b.channelOutput c :=
      Blocks.channelOutput_congr (by simp) c
    rw [output]
    exact .of_same rfl rfl
  ballots := ballotsThin_removeSupporter b l concerned

theorem aside_removeBallot (b : Blocks) (slot : BallotSlot) : Aside b (b.removeBallot slot) :=
  ⟨rfl, .refl _, rfl, rfl, rfl, rfl, fun _ => .of_same rfl rfl, ballotsThin_removeBallot b slot⟩

/-- Drives, notices and ballots that follow a change of lane state (04 R73). -/
theorem aside_moveLane (b : Blocks) (l : Lane) (r : LaneRecord) (cause : MemberCause) :
    Aside (b.placeLane l r) (b.moveLane l r cause true) := by
  have recomputed : Aside (b.placeLane l r) ((b.setLane l r).vetoStep l r.state true) := by
    unfold Blocks.vetoStep Blocks.placeLane
    split
    · exact aside_refreshOutputs _
    · exact .of_same rfl rfl rfl rfl rfl rfl rfl
  have noticed : Aside ((b.setLane l r).vetoStep l r.state true)
      ((((b.setLane l r).vetoStep l r.state true).readerStep l (b.laneState l) r.state).post
        (.memberChange l (b.laneState l) r.state cause)) := .of_same (by simp) (by simp) (by simp) (by simp) (by simp)
    (by simp) (by simp)
  refine recomputed.trans (noticed.trans ?_)
  simp only [Blocks.moveLane]
  unfold Blocks.supporterStep
  split
  · exact aside_removeSupporter ..
  · exact .of_same rfl rfl rfl rfl rfl rfl rfl

end

namespace Runs

variable {staging : Staging} {a b : Blocks}

/-! ## The output stage -/

theorem same (h : Runs staging a b) {d : Blocks} (device : d.device = b.device) (vote : d.vote = b.vote)
    (lanes : d.lanes = b.lanes) (active : d.active = b.active) (pending : d.pendingRecord = b.pendingRecord)
    (output : d.output = b.output) (ballots : d.ballots = b.ballots) : Runs staging a d :=
  h.aside (.of_same device vote lanes active pending output ballots)

theorem post (h : Runs staging a b) (body : NoticeBody) : Runs staging a (b.post body) :=
  h.same rfl rfl rfl rfl rfl rfl rfl

theorem refreshOutputs (h : Runs staging a b) : Runs staging a b.refreshOutputs := h.aside (aside_refreshOutputs b)

/-- An output written, its drive standing and its settle timer running on or stopped. -/
theorem setChannelOutput (h : Runs staging a b) {c : Channel} {o : ChannelOutput}
    (moves : SettleMoves b c (b.channelOutput c) o) : Runs staging a (b.setChannelOutput c o) :=
  h.aside (aside_setChannelOutput moves)

theorem refault (h : Runs staging a b) (c : Channel) (f : FaultState) :
    Runs staging a ((b.setFault c f).refreshChannel c) :=
  (h.setChannelOutput (o := { b.channelOutput c with fault := f }) (.of_same rfl rfl)).aside
    (aside_refreshChannel _ c)

theorem failChannel (h : Runs staging a b) (c : Channel) : Runs staging a (b.failChannel c) := by
  unfold Blocks.failChannel
  simp only
  split
  · exact (h.refault c .faulted).post _
  · exact (h.refault c .unsafeState).same rfl rfl rfl rfl rfl rfl rfl
  · exact h

theorem settleExpires (h : Runs staging a b) (c : Channel) : Runs staging a (b.settleExpires c) := by
  unfold Blocks.settleExpires
  simp only
  split
  · exact (h.setChannelOutput (o := { b.channelOutput c with settle := none }) (.inr (.inl rfl))).failChannel c
  · exact h.setChannelOutput (.inr (.inl rfl))

theorem mismatchExpires (h : Runs staging a b) (c : Channel) : Runs staging a (b.mismatchExpires c) :=
  (h.setChannelOutput (o := { b.channelOutput c with mismatch := none }) (.of_same rfl rfl)).failChannel c

theorem readbackChanges (h : Runs staging a b) (c : Channel) (level : ReadbackLevel) :
    Runs staging a (b.readbackChanges c level) :=
  h.setChannelOutput (.of_same rfl rfl)

theorem clearFault (h : Runs staging a b) (c : Channel) : Runs staging a (b.clearFault c) := by
  have cleared := h.setChannelOutput (o := { b.channelOutput c with fault := .none }) (.of_same rfl rfl)
  have posted : Runs staging a ((b.setFault c .none).post (.faultCleared c (b.fault c))) := cleared.post _
  exact (posted.aside (aside_refreshChannel _ c)).same rfl rfl rfl rfl rfl rfl rfl

/-- A veto set holds after a VETO what it held before and what the entries name (08 R130). -/
theorem has_applyVetoes {set : ChannelSet} {entries : List (Channel × Bool)} {c : Channel}
    (held : (Blocks.applyVetoes set entries).has c = true) : set.has c = true ∨ c ∈ entries.map Prod.fst := by
  induction entries generalizing set with
  | nil => exact .inl held
  | cons entry rest ih =>
    obtain ⟨e, action⟩ := entry
    rw [List.map_cons, List.mem_cons]
    cases action
    · rcases ih held with before | named
      · rw [IndexSet.has_erase, Bool.and_eq_true] at before
        obtain ⟨before, -⟩ := before
        exact .inl before
      · exact .inr (.inr named)
    · rcases ih held with before | named
      · rw [IndexSet.has_insert, Bool.or_eq_true, decide_eq_true_eq] at before
        rcases before with before | rfl
        · exact .inl before
        · exact .inr (.inl rfl)
      · exact .inr (.inr named)

theorem acceptVeto (h : Runs staging a b) {l : Lane} {entries : List (Nat × Bool)} {good : List (Channel × Bool)}
    (configured : b.device ≠ .lockout ∧ b.device ≠ .unconfigured)
    (member : b.laneState l ≠ .absent ∧ b.laneState l ≠ .excluded)
    (checked : Blocks.checkEntries b.badVeto 0 [] entries = .inr good) : Runs staging a (b.acceptVeto l good) := by
  refine refreshOutputs (h.veto l _ configured member fun c held => ?_)
  refine (has_applyVetoes held).imp_right fun named unused => ?_
  obtain ⟨⟨e, action⟩, listed, rfl⟩ := List.mem_map.mp named
  have allowed := Blocks.not_bad_of_checkEntries checked listed
  simp [Blocks.badVeto, unused] at allowed

/-! ## Lanes (04 R65 to R74) -/

theorem moveLane (h : Runs staging a b) {l : Lane} {r : LaneRecord} (move : LaneMove b l r) (cause : MemberCause) :
    Runs staging a (b.moveLane l r cause true) :=
  (h.placeLane move).aside (aside_moveLane b l r cause)

theorem admitLane (h : Runs staging a b) (l : Lane) : Runs staging a (b.admitLane l) := by
  unfold Blocks.admitLane
  split
  · rename_i ready
    exact h.moveLane (.admitted ready) _
  · exact h

theorem admitReady (h : Runs staging a b) : Runs staging a b.admitReady :=
  List.foldlRecOn _ _ h fun _ moved l _ => moved.admitLane l

theorem aside_outputs_excludeAtThreshold (b : Blocks) (l : Lane) :
    (∀ c, SettleMoves (b.excludeAtThreshold l) c (b.channelOutput c) ((b.excludeAtThreshold l).channelOutput c)) ∧
      BallotsThin b (b.excludeAtThreshold l) := by
  unfold Blocks.excludeAtThreshold
  split
  · have moved := aside_moveLane b l (Blocks.excludedRecord (b.lanes.row l)) .strikes
    refine ⟨fun c => ?_, BallotsThin.trans (.of_same (by simp)) moved.ballots⟩
    have placed : (b.placeLane l (Blocks.excludedRecord (b.lanes.row l))).channelOutput c = b.channelOutput c :=
      Blocks.channelOutput_congr_channels (by simp) c
    exact placed ▸ moved.settles c
  · exact ⟨fun c => .of_same rfl rfl, .of_same rfl⟩

/-- The drives and ballots after the exclusions of a close. -/
theorem outputs_foldl_excludeAtThreshold (named : List Lane) (b : Blocks) :
    (∀ c, SettleMoves b c (b.channelOutput c) ((named.foldl Blocks.excludeAtThreshold b).channelOutput c)) ∧
      BallotsThin b (named.foldl Blocks.excludeAtThreshold b) := by
  induction named generalizing b with
  | nil => exact ⟨fun c => .of_same rfl rfl, .of_same rfl⟩
  | cons l rest ih =>
    obtain ⟨settles, ballots⟩ := aside_outputs_excludeAtThreshold b l
    obtain ⟨settles', ballots'⟩ := ih (b.excludeAtThreshold l)
    have active : b.active = (b.excludeAtThreshold l).active := by simp
    exact ⟨fun c => ((settles c).congr active).trans ((settles' c).congr active), ballots.trans ballots'⟩

theorem strikes_struckRecord_le (r : LaneRecord) (dissented : Bool) :
    (Blocks.struckRecord r dissented).strikes ≤ r.strikes + 1 := by
  cases dissented
  · exact Nat.le_trans (Nat.sub_le ..) (Nat.le_succ _)
  · exact Nat.le_refl _

/-- The report of a close names VOTING lanes, none twice. -/
theorem reportTaken {report : List (Lane × Bool)} (different : (report.map Prod.fst).Nodup)
    (voting : ∀ l ∈ report.map Prod.fst, b.laneState l = .voting) : ReportTaken b (b.reported report) where
  device := by simp
  vote := by simp
  active := by simp
  pending := by simp
  lanes l := by
    by_cases named : l ∈ report.map Prod.fst
    · obtain ⟨⟨m, dissented⟩, listed, rfl⟩ := List.mem_map.mp named
      refine .inr ⟨voting m named, _, strikes_struckRecord_le (b.lanes.row m) dissented, ?_⟩
      rw [Blocks.row_reported_of_mem different listed]
      by_cases reached : b.config.strikeThreshold ≤ (Blocks.struckRecord (b.lanes.row m) dissented).strikes
      · exact .inr (if_pos reached)
      · exact .inl ⟨Nat.lt_of_not_le reached, if_neg reached⟩
    · exact .inl (Blocks.row_reported_of_not_mem named)
  vetoes l c held := by
    by_cases named : l ∈ report.map Prod.fst
    · obtain ⟨⟨m, dissented⟩, listed, rfl⟩ := List.mem_map.mp named
      rw [Blocks.vetoes_reported_of_mem different listed] at held
      rw [Blocks.laneState, Blocks.row_reported_of_mem different listed]
      by_cases reached : b.config.strikeThreshold ≤ (Blocks.struckRecord (b.lanes.row m) dissented).strikes
      · simp [if_pos reached] at held
      · rw [if_neg reached] at held ⊢
        exact ⟨held, rfl⟩
    · rw [Blocks.vetoes_reported_of_not_mem named] at held
      rw [Blocks.laneState, Blocks.row_reported_of_not_mem named]
      exact ⟨held, rfl⟩
  settles c := by
    obtain ⟨settles, -⟩ := outputs_foldl_excludeAtThreshold (report.map Prod.fst) (report.foldl Blocks.applyStrike b)
    have start : (report.foldl Blocks.applyStrike b).channelOutput c = b.channelOutput c :=
      Blocks.channelOutput_congr (b.output_foldl_applyStrike report) c
    obtain ⟨-, -, -, -, active, -⟩ :=
      (report.foldl Blocks.applyStrike b).foldl_excludeAtThreshold_kept (report.map Prod.fst)
    exact (start ▸ settles c).congr active
  ballots := by
    obtain ⟨-, ballots⟩ := outputs_foldl_excludeAtThreshold (report.map Prod.fst) (report.foldl Blocks.applyStrike b)
    obtain ⟨-, -, -, -, table, -⟩ := b.foldl_applyStrike_kept report
    exact (BallotsThin.of_same table).trans ballots

theorem applyReport (h : Runs staging a b) {report : List (Lane × Bool)} (different : (report.map Prod.fst).Nodup)
    (voting : ∀ l ∈ report.map Prod.fst, b.laneState l = .voting) : Runs staging a (b.applyReport report) :=
  (h.report (reportTaken different voting)).admitReady

/-! ## The device state and the switch (05 R78 to R87, 07 R124) -/

/-- Drives are recomputed once in a switch, in the new configuration (07 R124 step 7). -/
theorem settleMoves_switchTo (b : Blocks) (p : PendingRecord) (c : Channel) :
    SettleMoves (b.switchTo p) c (b.channelOutput c) ((b.switchTo p).channelOutput c) := by
  have staged : (b.switchedInputs p).channelOutput c =
      if (b.switchedInputs p).channelType c = b.channelType c then b.channelOutput c
      else { b.channelOutput c with fault := .none } := Table.row_build _ c
  rw [Blocks.switchTo_eq]
  generalize inputs_eq : (((b.switchedInputs p).post (.configSwitched (b.active.map ActiveConfig.digest)
    p.digest)).discardBallots.switchLanes) = inputs
  have output : inputs.channelOutput c = (b.switchedInputs p).channelOutput c :=
    Blocks.channelOutput_congr_channels (by simp [← inputs_eq, Blocks.channels_switchLanes]) c
  rw [Blocks.channelOutput_updateFailn, Blocks.channelOutput_refreshOutputs]
  have moves := settleMoves_refreshedOutput inputs c
  rw [output, staged] at moves
  refine SettleMoves.trans (p := if (b.switchedInputs p).channelType c = b.channelType c then b.channelOutput c
    else { b.channelOutput c with fault := .none }) ?_ (moves.congr rfl)
  split <;> exact .of_same rfl rfl

theorem switched_switchTo (b : Blocks) (p : PendingRecord) :
    Switched b p { b.switchTo p with device := b.deviceAfterSwitch } := by
  have round : SameRound (b.switchTo p).vote b.vote := by
    obtain ⟨d, switched, -, -, vote, -⟩ := b.exists_switchTo_inputs p
    rw [switched]
    simp only [Blocks.updateFailn_kept, Blocks.refreshOutputs_kept, Blocks.switchLanes_kept, vote]
    exact .refl _
  have active : (b.switchTo p).active = some ⟨decodeConfig p.image, p.digest⟩ := by simp
  have pending : (b.switchTo p).pendingRecord = none := by simp
  have lanes := b.row_switchTo p
  have vetoes := b.vetoes_switchTo p
  have settles := settleMoves_switchTo b p
  have ballots := b.ballots_switchTo p
  generalize b.switchTo p = d at *
  exact ⟨rfl, round, active, pending, lanes, vetoes, settles, ballots⟩

theorem switchTo (h : Runs staging a b) {p : PendingRecord} (pending : b.pendingRecord = some p)
    (configured : b.device ≠ .unconfigured) : Runs staging a (b.switchTo p) := by
  have device : b.deviceAfterSwitch = (b.switchTo p).device := by simp [Blocks.deviceAfterSwitch, configured]
  have switched := h.switched pending (switched_switchTo b p)
  rw [device] at switched
  generalize b.switchTo p = d at switched ⊢
  exact switched

theorem carryOutPending (h : Runs staging a b) (configured : b.device ≠ .unconfigured) :
    Runs staging a b.carryOutPending := by
  unfold Blocks.carryOutPending
  split
  · rename_i p pending
    exact h.switchTo pending configured
  · exact h

theorem roundOpened_openNextRound (b : Blocks) : RoundOpened b.openNextRound.vote :=
  ⟨rfl, rfl, fun l c => by simp [ProposalRow.empty]⟩

theorem enterRunning (h : Runs staging a b) (gathering : b.device = .gathering) : Runs staging a b.enterRunning := by
  have opened := h.restartLeases.round (.opened (.inl gathering) (roundOpened_openNextRound b.restartVotingLeases))
  exact (opened.refreshOutputs).same rfl rfl rfl rfl rfl rfl rfl

theorem resume (h : Runs staging a b) (safeHold : b.device = .safeHold) : Runs staging a b.resume := by
  have opened := h.round (.opened (.inr safeHold) (roundOpened_openNextRound b))
  exact (opened.refreshOutputs).same rfl rfl rfl rfl rfl rfl rfl

theorem safeHoldSteps (h : Runs staging a b) (running : b.device = .running) : Runs staging a b.safeHoldSteps := by
  have left := h.round (.discarded running)
  have inputs : Runs staging a b.safeHoldInputs := left.same (by simp [Blocks.safeHoldInputs]) rfl
    (by simp [Blocks.safeHoldInputs]) (by simp [Blocks.safeHoldInputs]) (by simp [Blocks.safeHoldInputs])
    (by simp [Blocks.safeHoldInputs]) (by simp [Blocks.safeHoldInputs])
  rw [Blocks.safeHoldSteps_eq]
  exact ((inputs.refreshOutputs).post _).admitReady

theorem enterLockout (h : Runs staging a b) (cause : LockoutCause) : Runs staging a (b.enterLockout cause) := by
  have abandoned := (h.round .abandoned).dropPending
  have inputs : Runs staging a (b.lockoutInputs cause) := abandoned.aside
    { device := by simp [Blocks.lockoutInputs]
      round := by simp [SameRound, Blocks.lockoutInputs]
      lanes := by simp [Blocks.lockoutInputs]
      active := by simp [Blocks.lockoutInputs]
      pending := by simp [Blocks.lockoutInputs]
      vetoes := by simp [Blocks.lockoutInputs]
      settles := fun c => by
        have output : (b.lockoutInputs cause).channelOutput c = b.channelOutput c :=
          Blocks.channelOutput_congr (by simp [Blocks.lockoutInputs]) c
        rw [output]
        exact .of_same rfl rfl
      ballots := .of_nil (by simp [Blocks.lockoutInputs]) }
  rw [Blocks.enterLockout_eq]
  exact inputs.refreshOutputs.same rfl rfl rfl rfl rfl rfl rfl

theorem reportCount (h : Runs staging a b) : Runs staging a b.reportCount := by
  unfold Blocks.reportCount
  split
  · rename_i gathering
    split
    · exact h.enterRunning gathering
    · exact h
  · rename_i running
    split
    · exact h
    · exact (h.safeHoldSteps running).carryOutPending (by simp)
  all_goals exact h

theorem switchAtClose (h : Runs staging a b) : Runs staging a b.switchAtClose := by
  unfold Blocks.switchAtClose
  split
  · rename_i p running pending
    have switched := h.switchTo pending (by simp [running])
    split
    · exact switched
    · exact switched.safeHoldSteps (by simpa using running)
  · exact h

/-! ## The round (02 R19 to R27) -/

theorem roundOpened_commitRound (b : Blocks) (e : Evaluation) : RoundOpened (b.commitRound e).vote := by
  refine ⟨by simp [Blocks.commitRound], by simp [Blocks.commitRound], fun l c => ?_⟩
  simp [Blocks.commitRound, ProposalRow.empty]

theorem commitRound (h : Runs staging a b) (open_ : b.vote.openRound = .collecting ∨ b.vote.deadline.isSome = true) :
    Runs staging a (b.commitRound b.evaluate) := by
  have committed := h.round (.committed open_ (roundOpened_commitRound b b.evaluate))
  refine committed.aside
    { device := by simp [Blocks.commitRound]
      round := .refl _
      lanes := by simp [Blocks.commitRound]
      active := by simp [Blocks.commitRound]
      pending := by simp [Blocks.commitRound]
      vetoes := by simp [Blocks.commitRound]
      settles := fun c => ?_
      ballots := .of_same (by simp [Blocks.commitRound]) }
  have output : (b.commitRound b.evaluate).channelOutput c = b.committedInputs.refreshOutputs.channelOutput c :=
    Blocks.channelOutput_congr (by simp [Blocks.commitRound, Blocks.committedInputs]) c
  rw [output, Blocks.channelOutput_refreshOutputs]
  exact (settleMoves_refreshedOutput b.committedInputs c).congr (by simp [Blocks.commitRound, Blocks.committedInputs])

theorem closeRound (h : Runs staging a b) (open_ : b.vote.openRound = .collecting ∨ b.vote.deadline.isSome = true)
    (evalB : Option Evaluation) : Runs staging a (b.closeRound evalB) := by
  unfold Blocks.closeRound
  split
  · refine (((h.commitRound open_).applyReport b.nodup_report fun l named => ?_).reportCount).switchAtClose
    obtain ⟨-, voting⟩ := (b.mem_report_fst l).mp named
    rw [Blocks.laneState_congr (d := b) (by simp [Blocks.commitRound]), voting]
  · exact h.enterLockout _

theorem retest (h : Runs staging a b) (evalB : Option Evaluation) : Runs staging a (b.retest evalB) := by
  unfold Blocks.retest
  split
  · rename_i closes
    obtain ⟨collecting, -⟩ := closes
    exact h.closeRound (.inl collecting) evalB
  · exact h

theorem closeIfComplete (h : Runs staging a b) (evalB : Option Evaluation) : Runs staging a (b.closeIfComplete evalB) := by
  unfold Blocks.closeIfComplete
  split
  · rename_i closes
    obtain ⟨collecting, -⟩ := closes
    exact h.closeRound (.inl collecting) evalB
  · exact h

theorem storeProposal (h : Runs staging a b) (l : Lane) (entries : List (Channel × Nat)) (running : b.device = .running) :
    Runs staging a (b.storeProposal l entries) :=
  (h.round (.proposed l entries running)).same (by simp) rfl (by simp) (by simp) (by simp) (by simp) (by simp)

/-- Seven refusals leave the blocks before the entries are looked at (02 R19). -/
theorem propose (h : Runs staging a b) (l : Lane) (round : BitVec 16) (entries : List (Nat × Nat))
    (evalB : Option Evaluation) : Runs staging a (b.propose l round entries evalB).1 := by
  unfold Blocks.propose
  iterate 3
    split
    · exact h
  split
  · exact h
  rename_i running
  iterate 3
    split
    · exact h
  split
  · exact h
  · exact (h.storeProposal l _ (Decidable.not_not.mp running)).closeIfComplete evalB

/-! ## Lane events outside a close (04) -/

theorem laneEvent (h : Runs staging a b) {l : Lane} {r : LaneRecord} (move : LaneMove b l r) (cause : MemberCause)
    (evalB : Option Evaluation) : Runs staging a (b.laneEvent l r cause evalB) := by
  unfold Blocks.laneEvent
  simp only
  split
  · exact ((h.moveLane move cause).retest evalB).reportCount
  · exact h.moveLane move cause

theorem admitOutsideRunning (h : Runs staging a b) (l : Lane) : Runs staging a (b.admitOutsideRunning l) := by
  unfold Blocks.admitOutsideRunning
  split
  · exact (h.admitLane l).reportCount
  · exact (h.admitLane l).reportCount
  all_goals exact h

theorem join (h : Runs staging a b) (l : Lane) (digest : Digest) : Runs staging a (b.join l digest).1 := by
  unfold Blocks.join
  split
  · exact h
  · rename_i unconfigured absent
    exact h.moveLane (.linked absent unconfigured) _
  · rename_i absent _ _
    split
    · exact h
    rename_i enrolled
    split
    · exact h
    · exact (h.moveLane (.joined _ absent (by simpa using enrolled)) _).admitOutsideRunning l
  iterate 4 exact h
  · rename_i excluded _
    exact h.writeLane (.rejoining excluded)

theorem leave (h : Runs staging a b) (l : Lane) (evalB : Option Evaluation) :
    Runs staging a (b.leave l evalB).1 := by
  unfold Blocks.leave
  split
  iterate 3 exact h
  all_goals
    rename_i state _
    exact h.laneEvent (.left (by simp [state]) (by simp [state])) ..

theorem takeReturn (h : Runs staging a b) {l : Lane} (suspect : b.laneState l = .suspect) :
    Runs staging a (b.takeReturn l) :=
  (h.writeLane (.returned b.config.lease suspect)).admitOutsideRunning l

theorem renew (h : Runs staging a b) (l : Lane) : Runs staging a (b.renew l) := by
  unfold Blocks.renew
  split
  iterate 4 exact h
  · rename_i state _
    exact h.writeLane (.renewed _ (.inl state))
  · rename_i state _
    exact h.writeLane (.renewed _ (.inr (.inl state)))
  · rename_i state _
    split
    · rename_i returns
      exact h.writeLane (.renewed _ (.inr (.inr ⟨state, returns⟩)))
    · exact h.takeReturn state

theorem readmit (h : Runs staging a b) {l : Lane} (excluded : b.laneState l = .excluded) :
    Runs staging a (b.readmit l) :=
  (h.moveLane (.readmitted _ excluded) _).admitOutsideRunning l

theorem leaseExpires (h : Runs staging a b) (l : Lane) (evalB : Option Evaluation) :
    Runs staging a (b.leaseExpires l evalB) := by
  unfold Blocks.leaseExpires
  simp only
  split
  · rename_i state
    exact h.laneEvent (.left (ne_of_eq_of_ne state (by decide)) (ne_of_eq_of_ne state (by decide))) ..
  · rename_i state
    exact h.laneEvent (.suspected _ state) ..
  · rename_i state
    split
    · exact h.writeLane (.lapsed _ state)
    · exact h
  all_goals exact h

theorem graceExpires (h : Runs staging a b) (l : Lane) : Runs staging a (b.graceExpires l) := by
  unfold Blocks.graceExpires
  simp only
  split
  · rename_i due
    obtain ⟨state, -⟩ := due
    exact h.laneEvent (.excluded state) ..
  · exact h

/-! ## Ballots (06 R96 to R105) -/

theorem removeBallot_post (h : Runs staging a b) (slot : BallotSlot) (body : NoticeBody) :
    Runs staging a ((b.removeBallot slot).post body) :=
  (h.aside (aside_removeBallot b slot)).post body

/-- The first switch and the admissions in GATHERING (05 R80). -/
theorem firstSwitch (h : Runs staging a b) (unconfigured : b.device = .unconfigured) {p : PendingRecord}
    (pending : b.pendingRecord = some p) : Runs staging a b.firstSwitch := by
  have carried : b.carryOutPending = b.switchTo p := by simp only [Blocks.carryOutPending, pending]
  have device : b.deviceAfterSwitch = .gathering := if_pos unconfigured
  have gathering := h.switched pending (switched_switchTo b p)
  rw [device] at gathering
  unfold Blocks.firstSwitch
  rw [carried]
  exact (gathering.post _).admitReady.reportCount

theorem commitConfig (h : Runs staging a b) {l : Lane} {d : Digest} (carried : Carried staging a l d) :
    Runs staging a (b.commitConfig (staging.row l).image d) := by
  have pending := h.pending l d carried
  unfold Blocks.commitConfig
  simp only
  split
  · rename_i unconfigured
    exact pending.firstSwitch unconfigured rfl
  · rename_i safeHold
    exact pending.carryOutPending (by simp [safeHold])
  all_goals exact pending

/-- The pass of a ballot whose action is applicable, by supporters that hold what the action needs of them. -/
theorem pass (h : Runs staging a b) {l : Lane} {x : Ballot} {supporters : LaneSet}
    (applicable : b.inapplicable staging l x.action = none)
    (carried : ∀ d, x.action = .commitConfig d → ∀ m, supporters.has m = true → Carried staging a m d) :
    Runs staging a (b.pass staging x supporters) := by
  have removed := h.removeBallot_post x.slot (.ballotPassed x.slot x.action supporters)
  unfold Blocks.pass
  generalize x.action = action at applicable carried removed ⊢
  cases action with
  | clearFault c => exact removed.clearFault c
  | readmit r =>
    have excluded : b.laneState r = .excluded := Blocks.excluded_of_applicable applicable
    exact removed.readmit excluded
  | resume =>
    have safeHold : b.device = .safeHold := Blocks.safeHold_of_applicable applicable
    exact removed.resume safeHold
  | commitConfig d =>
    simp only [Blocks.carryOut]
    split
    · rename_i m lowest
      have member : supporters.has m = true := (IndexSet.mem_members _ _).mp (List.mem_of_head? lowest)
      exact removed.commitConfig (carried d rfl m member)
    · exact removed

/-- A lane that may support a ballot holds its image, as do the supporters it has (06 R97). -/
theorem carried_insert {x : Ballot} {l m : Lane} {d : Digest} (listed : x ∈ b.ballots) (action : x.action = .commitConfig d)
    (applicable : b.inapplicable staging l x.action = none) (supports : (x.supporters.insert l).has m = true) :
    Carried staging b m d := by
  rw [IndexSet.has_insert, Bool.or_eq_true, decide_eq_true_eq] at supports
  rcases supports with old | rfl
  · exact .inr ⟨x, listed, action, old⟩
  · exact .inl (Blocks.carries_of_applicable (action ▸ applicable))

/-- One supporter more for an open ballot, or its pass. -/
theorem addSupport {l : Lane} {x : Ballot} (listed : x ∈ b.ballots) (applicable : b.inapplicable staging l x.action = none) :
    Runs staging b (b.addSupport staging l x).1 := by
  have carried : ∀ d, x.action = .commitConfig d → ∀ m, (x.supporters.insert l).has m = true → Carried staging b m d :=
    fun d action m supports => carried_insert listed action applicable supports
  unfold Blocks.addSupport
  simp only
  split
  · exact refl.pass applicable carried
  · refine refl.ballots _ fun law y new d action m supports => ?_
    obtain ⟨z, old, rfl⟩ := List.mem_map.mp new
    split at supports
    · rename_i same
      have this : z = x := eq_of_nodup_map law.slots old listed same
      rw [if_pos same, this] at action
      exact carried d action m supports
    · rename_i other
      rw [if_neg other] at action
      exact .inr ⟨z, old, action, supports⟩

theorem createBallot {l : Lane} {action : BallotAction} (applicable : b.inapplicable staging l action = none)
    (slot : BallotSlot) : Runs staging b (b.createBallot staging l action slot) := by
  refine refl.ballots _ fun _ y new d names m supports => ?_
  rcases List.mem_append.mp new with old | created
  · exact .inr ⟨y, old, names, supports⟩
  · cases List.mem_singleton.mp created
    have same : l = m := by simpa [IndexSet.has_insert] using supports
    cases names
    exact .inl (same ▸ Blocks.carries_of_applicable applicable)

theorem support (b : Blocks) (staging : Staging) (l : Lane) (action : BallotAction) :
    Runs staging b (b.support staging l action).1 := by
  unfold Blocks.support
  split
  · exact refl
  split
  · exact refl
  split
  · exact refl
  rename_i applicable
  unfold Blocks.supportTable
  split
  · rename_i x found
    split
    · exact refl
    · have same : x.action = action := by simpa using List.find?_some found
      exact addSupport (List.mem_of_find?_eq_some found) (same ▸ applicable)
  · exact createBallot applicable _
  · exact refl

end Runs

/-! ## Events -/

theorem runs_handleVeto (b : Blocks) (staging : Staging) (l : Lane) (payload : List Byte) :
    Runs staging b (handleVeto l payload b staging).blocks := by
  unfold handleVeto
  split
  · exact .refl
  split
  · exact .refl
  rename_i live
  split
  · exact .refl
  rename_i configured
  split
  · exact .refl
  rename_i member
  split
  · exact .refl
  · rename_i checked
    exact Runs.refl.acceptVeto ⟨live, configured⟩ (not_or.mp member) checked

/-- What a request can do. -/
theorem runs_handled (b : Blocks) (staging : Staging) (l : Lane) (kind : Byte) (payload : List Byte)
    (evalB : Option Evaluation) : Runs staging b (handlerOf l kind payload evalB b staging).blocks := by
  have h : Runs staging b b := .refl
  generalize taken : handlerOf l kind payload evalB = handle
  unfold handlerOf at taken
  split at taken <;> subst taken
  · unfold handleJoin
    split
    · exact h.renew l
    · exact (h.join ..).renew l
  · unfold handleLeave
    split
    · exact h
    · exact h.leave ..
  · unfold handleKeepalive
    split
    · exact h.renew l
    · exact h.renew l
  · unfold handlePropose
    split
    · exact h.renew l
    · exact (h.propose ..).renew l
  · exact runs_handleVeto ..
  · unfold handleSupport
    split
    · exact h
    · rw [blocks_served]
      exact .support ..
  · rwa [blocks_handleStageWrite]
  · rwa [blocks_handleStageSeal]
  · unfold handleStageOpen
    split
    · exact h
    split
    · exact h
    split
    · exact h
    · exact h
    · rw [blocks_unchanged]
      split
      · exact h.aside (aside_removeSupporter ..)
      · exact h
  · rwa [blocks_handleReadStaging]
  · unfold handleFetchNotices
    split
    · exact h
    split
    · exact h
    · exact h.same rfl rfl rfl rfl rfl rfl rfl
  · rwa [blocks_handleReadStatus]
  · rwa [blocks_handleReadChannels]
  · rwa [blocks_handleReadBallots]
  · rwa [blocks_handleUnknown]

theorem deadline_of_due {s : State} (due : s.timer .deadline = some 0) : s.vote.deadline.isSome = true := by
  unfold State.timer at due
  split at due
  · cases due
  · simp only at due
    simp [due]

/-- What an expiry can do. -/
theorem runs_expired (s : State) {n : TimerName} (due : s.timer n = some 0) (evalB : Option Evaluation) :
    Runs s.staging s.toBlocks (s.expire evalB n).toBlocks := by
  have h : Runs s.staging s.toBlocks s.toBlocks := .refl
  cases n with
  | deadline => exact h.closeRound (.inr (deadline_of_due due)) evalB
  | lease l => exact h.leaseExpires l evalB
  | grace l => exact h.graceExpires l
  | lifetime slot =>
    simp only [State.expire]
    split
    · exact h.removeBallot_post ..
    · exact h
  | sealing l => exact h
  | settle c => exact h.settleExpires c
  | mismatch c => exact h.mismatchExpires c

/-- Every event of the blocks but a reset and the passing of 1 ms is a chain of the steps of `Runs`. -/
theorem reset_or_later_or_runs {s : State} {b : Blocks} (event : BlocksEvent s b) :
    (∃ record, b = { Blocks.reset with lockoutRecord := record }) ∨ b = s.toBlocks.timersLater ∨
      Runs s.staging s.toBlocks b := by
  cases event with
  | unchanged => exact .inr (.inr .refl)
  | reset record => exact .inl ⟨record, rfl⟩
  | handled l kind payload evalB => exact .inr (.inr (runs_handled s.toBlocks s.staging l kind payload evalB))
  | expired n evalB due => exact .inr (.inr (runs_expired s due evalB))
  | readback c level => exact .inr (.inr (Runs.refl.readbackChanges c level))
  | storeCheck _ => exact .inr (.inr (Runs.refl.enterLockout _))
  | later => exact .inr (.inl rfl)

end Sys2Proof.Machine
end

section
/-! # The configurations held stay valid (07 R111, R119)

Along every chain of `Runs` the pending record and the active configuration come from images that passed a seal. -/

namespace Sys2Proof.Machine

/-- The pending record and the active configuration come from valid images. -/
structure ConfigsHeld (b : Blocks) : Prop where
  pending : ∀ p, b.pendingRecord = some p → validate p.image = none
  active : ∀ a, b.active = some a → ∃ m, validate m = none ∧ a.record = decodeConfig m

theorem ImagesValid.configsHeld {s : State} (images : ImagesValid s) : ConfigsHeld s.toBlocks := by
  obtain ⟨-, -, pending, -, active⟩ := images
  exact ⟨pending, active⟩

/-- A lane that carries the image of a configuration holds a valid image. -/
theorem ImagesValid.of_carried {s : State} (images : ImagesValid s) {l : Lane} {d : Digest}
    (carried : Carried s.staging s.toBlocks l d) : validate (s.staging.row l).image = none := by
  obtain ⟨sealed_valid, -, -, supported, -⟩ := images
  have carries : (s.staging.row l).carries d = true := by
    rcases carried with carries | ⟨x, listed, action, supports⟩
    · exact carries
    · exact supported x listed d action l supports
  obtain ⟨isSealed, -⟩ := ((s.staging.row l).carries_iff d).mp carries
  exact sealed_valid l isSealed

namespace ConfigsHeld

theorem congr {b d : Blocks} (h : ConfigsHeld b) (active : d.active = b.active)
    (pending : d.pendingRecord = b.pendingRecord) : ConfigsHeld d :=
  ⟨pending ▸ h.pending, active ▸ h.active⟩

theorem runs {s : State} (images : ImagesValid s) {b : Blocks} (chain : Runs s.staging s.toBlocks b) :
    ConfigsHeld b := by
  induction chain with
  | refl => exact images.configsHeld
  | aside _ kept ih => exact ih.congr kept.active kept.pending
  | ballots _ _ _ ih => exact ih.congr rfl rfl
  | pending _ l d carried ih =>
    refine ⟨fun p set => ?_, ih.active⟩
    cases set
    exact images.of_carried carried
  | dropPending _ ih => exact ⟨fun _ set => (nomatch set), ih.active⟩
  | writeLane _ _ ih => exact ih.congr rfl rfl
  | placeLane _ _ ih => exact ih.congr (by simp) (by simp)
  | restartLeases _ ih => exact ih.congr rfl rfl
  | report _ taken ih => exact ih.congr taken.active taken.pending
  | veto _ _ _ _ _ _ ih => exact ih.congr rfl rfl
  | round _ _ ih => exact ih.congr rfl rfl
  | switched _ pending switched ih =>
    refine ⟨fun p set => by simp [switched.pending] at set, fun a active => ?_⟩
    rw [switched.active] at active
    cases active
    exact ⟨_, ih.pending _ pending, rfl⟩

end ConfigsHeld

theorem ok_of_require {ok : Bool} {reason : InvalidReason} (passes : require ok reason = none) : ok = true := by
  unfold require at passes
  split at passes
  · assumption
  · cases passes

/-- A configuration in force asks for at least one strike to exclude a lane (07 R119 check 6). -/
theorem strikeThreshold_pos {m : Memory} (valid : validate m = none) : 1 ≤ (decodeConfig m).strikeThreshold := by
  have inRange := ok_of_require (eq_none_of_firstFailure valid
    (x := require (decide (1 ≤ Memory.u8 m 6) && decide (Memory.u8 m 6 ≤ 15)) .strikes) (by simp))
  simp only [Bool.and_eq_true, decide_eq_true_eq] at inRange
  obtain ⟨positive, -⟩ := inRange
  exact positive

end Sys2Proof.Machine
end

section
/-! # The round law (02 R16 to R18) -/

namespace Sys2Proof.Machine

/-- The round law of the blocks. -/
structure RoundLawful (b : Blocks) : Prop where
  running : b.vote.openRound ≠ .none ↔ b.device = .running
  deadline : b.vote.deadline.isSome = true ↔ b.vote.openRound = .collecting
  absent : ∀ l, b.vote.proposers.has l = false → ∀ c, (b.vote.proposals.row l).row c = none

theorem roundLaw_iff (s : State) : RoundLaw s ↔ RoundLawful s.toBlocks :=
  ⟨fun ⟨running, deadline, absent⟩ => ⟨running, deadline, absent⟩,
    fun law => ⟨law.running, law.deadline, law.absent⟩⟩

namespace RoundLawful

variable {b d : Blocks}

theorem congr (h : RoundLawful b) (running : d.device = .running ↔ b.device = .running)
    (round : SameRound d.vote b.vote) : RoundLawful d := by
  obtain ⟨openRound, deadline, proposals, proposers⟩ := round
  constructor
  · rw [openRound, running]
    exact h.running
  · rw [deadline, openRound]
    exact h.deadline
  · rw [proposers, proposals]
    exact h.absent

/-- A round opens in RUNNING, with nothing proposed. -/
theorem of_opened (opened : RoundOpened b.vote) (running : b.device = .running) : RoundLawful b := by
  obtain ⟨idle, stopped, rows⟩ := opened
  exact ⟨by simp [idle, running], by simp [idle, stopped], fun l _ c => rows l c⟩

/-- No round is open outside RUNNING. -/
theorem of_shut (openRound : b.vote.openRound = .none) (deadline : b.vote.deadline = none) (idle : b.device ≠ .running)
    (absent : ∀ l, b.vote.proposers.has l = false → ∀ c, (b.vote.proposals.row l).row c = none) : RoundLawful b :=
  ⟨by simp [openRound, idle], by simp [openRound, deadline], absent⟩

/-- An accepted proposal: its lane joins the proposer set with its row (02 R19). -/
theorem storeProposal (h : RoundLawful b) (l : Lane) (entries : List (Channel × Nat)) (running : b.device = .running) :
    RoundLawful (b.storeProposal l entries) := by
  have absent : ∀ m, (b.vote.proposers.insert l).has m = false → ∀ c,
      ((b.vote.proposals.put l (Blocks.proposalRow entries)).row m).row c = none := by
    intro m out c
    rw [IndexSet.has_insert, Bool.or_eq_false_iff, decide_eq_false_iff_not] at out
    obtain ⟨out, other⟩ := out
    rw [Table.row_put_of_ne _ other]
    exact h.absent m out c
  unfold Blocks.storeProposal
  split
  · exact ⟨by simp [running], by simp, absent⟩
  · exact ⟨h.running, h.deadline, absent⟩
  · exact ⟨h.running, h.deadline, absent⟩

theorem discardRound (h : RoundLawful b) (running : b.device = .running) :
    b.safeHoldInputs.vote.deadline = none ∧ ∀ l c, (b.safeHoldInputs.vote.proposals.row l).row c = none := by
  have open_ : b.vote.openRound ≠ .none := h.running.mpr running
  unfold Blocks.safeHoldInputs Blocks.discardRound
  split
  · contradiction
  · exact ⟨rfl, fun l c => by simp [Blocks.writeFallbackImage, Blocks.emptyProposals, ProposalRow.empty]⟩

theorem round (h : RoundLawful b) {v : VoteEngine} {next : DeviceState} (move : RoundMove b v next) :
    RoundLawful { b with vote := v, device := next } := by
  cases move with
  | committed open_ opened =>
    have collecting : b.vote.openRound = .collecting := open_.elim id h.deadline.mp
    exact of_opened opened (h.running.mp (by simp [collecting]))
  | proposed l entries running => exact (h.storeProposal l entries running).congr (by simp) (.refl _)
  | opened _ opened => exact of_opened opened rfl
  | discarded running =>
    obtain ⟨deadline, rows⟩ := h.discardRound running
    exact of_shut (by simp [Blocks.safeHoldInputs]) deadline (by simp) fun l _ c => rows l c
  | abandoned => exact of_shut rfl rfl (by simp) h.absent

theorem runs {staging : Staging} {a : Blocks} (start : RoundLawful a) (chain : Runs staging a b) : RoundLawful b := by
  induction chain with
  | refl => exact start
  | aside _ kept ih => exact ih.congr (by rw [kept.device]) kept.round
  | ballots _ _ _ ih => exact ih.congr .rfl (.refl _)
  | pending _ _ _ _ ih => exact ih.congr .rfl (.refl _)
  | dropPending _ ih => exact ih.congr .rfl (.refl _)
  | writeLane _ _ ih => exact ih.congr .rfl (.refl _)
  | placeLane _ _ ih => exact ih.congr (by simp) (by simp [SameRound])
  | restartLeases _ ih => exact ih.congr .rfl (.refl _)
  | report _ taken ih => exact ih.congr (by rw [taken.device]) (taken.vote ▸ .refl _)
  | veto _ _ _ _ _ _ ih => exact ih.congr .rfl (.refl _)
  | round _ move ih => exact ih.round move
  | @switched between after _ _ _ switched ih =>
    have running : after.device = .running ↔ between.device = .running := by
      rw [switched.device, Blocks.deviceAfterSwitch]
      split <;> simp [*]
    exact ih.congr running switched.round

theorem timersLater (h : RoundLawful b) : RoundLawful b.timersLater :=
  ⟨h.running, by simpa [Blocks.timersLater, Timer.later] using h.deadline, h.absent⟩

end RoundLawful

/-- Settles O13: a reset leaves no round open, time stops no deadline, and any other event is a chain that keeps the law. -/
theorem roundLawKept : Obligations.RoundLawKept := by
  intro s t law next
  have lawful := (roundLaw_iff s).mp law
  refine (roundLaw_iff t).mpr ?_
  rcases reset_or_later_or_runs (step_blocksEvent next) with ⟨record, reset⟩ | later | chain
  · have shut := (roundLaw_iff State.reset).mp roundLaw_reset
    rw [reset]
    exact shut.congr .rfl (.refl _)
  · rw [later]
    exact lawful.timersLater
  · exact lawful.runs chain

end Sys2Proof.Machine
end

section
/-! # The lane records (04 R54, R60, R64, R68) -/

namespace Sys2Proof.Machine

/-- The timers and flags a record holds by its state. -/
structure TimersLawful (r : LaneRecord) : Prop where
  lease : r.lease.isSome = true ↔
    (r.state = .candidate ∨ r.state = .voting ∨ (r.state = .suspect ∧ r.returnPending = true))
  grace : r.grace.isSome = true ↔ (r.state = .suspect ∧ r.returnPending = false)
  returns : r.returnPending = true → r.state = .suspect

/-- The strike count of a record against a threshold. -/
structure StrikesLawful (threshold : Nat) (r : LaneRecord) : Prop where
  atMost : r.strikes ≤ threshold
  below : r.state ≠ .excluded → r.strikes < threshold

/-- The lane record law of the blocks. -/
structure RecordsLawful (b : Blocks) : Prop where
  timers : ∀ l, TimersLawful (b.lanes.row l)
  strikes : ∀ l a, b.active = some a → StrikesLawful a.record.strikeThreshold (b.lanes.row l)

theorem laneRecordLaw_iff (s : State) : LaneRecordLaw s ↔ RecordsLawful s.toBlocks := by
  refine ⟨fun law => ⟨fun l => ?timers, fun l a active => ?strikes⟩, fun law l => ?law⟩
  case timers =>
    obtain ⟨lease, grace, returns, -⟩ := law l
    exact ⟨lease, grace, returns⟩
  case strikes =>
    obtain ⟨-, -, -, strikes⟩ := law l
    obtain ⟨atMost, below⟩ := strikes a active
    exact ⟨atMost, below⟩
  case law =>
    obtain ⟨lease, grace, returns⟩ := law.timers l
    exact ⟨lease, grace, returns, fun a active => ⟨(law.strikes l a active).atMost, (law.strikes l a active).below⟩⟩

namespace TimersLawful

variable {r : LaneRecord}

/-- The strike count and the flag that asks to rejoin do not matter. -/
theorem of_sameTimers (h : TimersLawful r) {q : LaneRecord} (state : q.state = r.state) (lease : q.lease = r.lease)
    (grace : q.grace = r.grace) (returns : q.returnPending = r.returnPending) : TimersLawful q := by
  constructor
  · rw [lease, state, returns]
    exact h.lease
  · rw [grace, state, returns]
    exact h.grace
  · rw [returns, state]
    exact h.returns

theorem absentRecord (r : LaneRecord) : TimersLawful (Blocks.absentRecord r) := by
  constructor <;> simp [Blocks.absentRecord]

theorem excludedRecord (r : LaneRecord) : TimersLawful (Blocks.excludedRecord r) := by
  constructor <;> simp [Blocks.excludedRecord]

/-- No return is pending and no grace runs outside SUSPECT. -/
theorem outside_suspect (h : TimersLawful r) (state : r.state ≠ .suspect) : r.returnPending = false ∧ r.grace = none := by
  refine ⟨Bool.eq_false_iff.mpr fun set => state (h.returns set), ?_⟩
  cases runs : r.grace with
  | none => rfl
  | some left =>
    obtain ⟨suspect, -⟩ := h.grace.mp (by simp [runs])
    exact absurd suspect state

/-- No timer runs for a lane that is ABSENT, LINKED or EXCLUDED (04 R54). -/
theorem lease_none (h : TimersLawful r) (candidate : r.state ≠ .candidate) (voting : r.state ≠ .voting)
    (suspect : r.state ≠ .suspect) : r.lease = none := by
  cases runs : r.lease with
  | none => rfl
  | some left =>
    have state := h.lease.mp (by simp [runs])
    simp [candidate, voting, suspect] at state

end TimersLawful

/-- Ready for admission: CANDIDATE, or SUSPECT with its return pending (04 R65). -/
theorem Blocks.readyForAdmission_iff (b : Blocks) (l : Lane) : b.readyForAdmission l = true ↔
    b.laneState l = .candidate ∨ (b.laneState l = .suspect ∧ (b.lanes.row l).returnPending = true) := by
  unfold readyForAdmission
  cases b.laneState l <;> simp

namespace RecordsLawful

variable {b d : Blocks}

theorem congr (h : RecordsLawful b) (lanes : d.lanes = b.lanes) (active : d.active = b.active) : RecordsLawful d := by
  constructor
  · rw [lanes]
    exact h.timers
  · rw [lanes, active]
    exact h.strikes

/-- One lane's record written. -/
theorem put (h : RecordsLawful b) {l : Lane} {r : LaneRecord} (lanes : d.lanes = b.lanes.put l r)
    (active : d.active = b.active) (timers : TimersLawful r)
    (strikes : ∀ a, b.active = some a → StrikesLawful a.record.strikeThreshold r) : RecordsLawful d := by
  constructor
  · intro m
    rw [lanes, Table.row_put]
    split
    · exact timers
    · exact h.timers m
  · intro m a
    rw [lanes, active, Table.row_put]
    split
    · exact strikes a
    · exact h.strikes m a

theorem timers_write (h : RecordsLawful b) {l : Lane} {r : LaneRecord} (write : LaneWrite b l r) : TimersLawful r := by
  have timers := h.timers l
  cases write with
  | renewed lease state => exact ⟨by simpa [Blocks.laneState] using state, timers.grace, timers.returns⟩
  | returned lease state =>
    have suspect : (b.lanes.row l).state = .suspect := state
    exact ⟨by simp [suspect], by simp, fun _ => suspect⟩
  | lapsed grace state =>
    have suspect : (b.lanes.row l).state = .suspect := state
    exact ⟨by simp [suspect], by simp [suspect], by simp⟩
  | rejoining state => exact timers.of_sameTimers rfl rfl rfl rfl

theorem strikes_write (h : RecordsLawful b) {l : Lane} {r : LaneRecord} (write : LaneWrite b l r) (a : ActiveConfig)
    (active : b.active = some a) : StrikesLawful a.record.strikeThreshold r := by
  obtain ⟨atMost, below⟩ := h.strikes l a active
  cases write <;> exact ⟨atMost, below⟩

theorem timers_move (h : RecordsLawful b) {l : Lane} {r : LaneRecord} (move : LaneMove b l r) : TimersLawful r := by
  have timers := h.timers l
  cases move with
  | linked state _ =>
    have absent : (b.lanes.row l).state = .absent := state
    obtain ⟨returns, grace⟩ := timers.outside_suspect (by simp [absent])
    have lease := timers.lease_none (by simp [absent]) (by simp [absent]) (by simp [absent])
    exact ⟨by simp [lease], by simp [grace], by simp [returns]⟩
  | joined lease state _ =>
    have absent : (b.lanes.row l).state = .absent := state
    obtain ⟨returns, grace⟩ := timers.outside_suspect (by simp [absent])
    exact ⟨by simp, by simp [grace], by simp [returns]⟩
  | admitted ready =>
    obtain state | ⟨state, returns⟩ := (b.readyForAdmission_iff l).mp ready
    · have candidate : (b.lanes.row l).state = .candidate := state
      obtain ⟨-, grace⟩ := timers.outside_suspect (by simp [candidate])
      exact ⟨by simp [timers.lease, candidate], by simp [grace], by simp⟩
    · have suspect : (b.lanes.row l).state = .suspect := state
      have grace := timers.grace
      exact ⟨by simp [timers.lease, suspect, returns], by simp [grace, returns], by simp⟩
  | left _ _ => exact .absentRecord _
  | suspected grace _ => exact ⟨by simp, by simp, by simp⟩
  | excluded _ => exact .excludedRecord _
  | readmitted lease state =>
    have excluded : (b.lanes.row l).state = .excluded := state
    obtain ⟨returns, grace⟩ := timers.outside_suspect (by simp [excluded])
    exact ⟨by simp, by simp [grace], by simp [returns]⟩

theorem strikes_move (h : RecordsLawful b) {l : Lane} {r : LaneRecord} (move : LaneMove b l r) {a : ActiveConfig}
    (active : b.active = some a) (positive : 1 ≤ a.record.strikeThreshold) :
    StrikesLawful a.record.strikeThreshold r := by
  obtain ⟨atMost, below⟩ := h.strikes l a active
  have below : b.laneState l ≠ .excluded → (b.lanes.row l).strikes < a.record.strikeThreshold := below
  cases move with
  | linked state _ => exact ⟨atMost, fun _ => below (by simp [state])⟩
  | joined lease state _ => exact ⟨atMost, fun _ => below (by simp [state])⟩
  | admitted ready =>
    refine ⟨atMost, fun _ => below ?_⟩
    obtain state | ⟨state, -⟩ := (b.readyForAdmission_iff l).mp ready
    · simp [state]
    · simp [state]
  | left _ member => exact ⟨atMost, fun _ => below member⟩
  | suspected grace state => exact ⟨atMost, fun _ => below (by simp [state])⟩
  | excluded _ => exact ⟨atMost, fun out => absurd rfl out⟩
  | readmitted lease _ => exact ⟨Nat.zero_le _, fun _ => positive⟩

/-- A close takes the count of a VOTING lane to the threshold only by excluding the lane (04 R68). -/
theorem report (h : RecordsLawful b) (taken : ReportTaken b d) : RecordsLawful d := by
  constructor
  · intro l
    rcases taken.lanes l with same | ⟨-, strikes, -, ⟨-, struck⟩ | excluded⟩
    · rw [same]
      exact h.timers l
    · rw [struck]
      exact (h.timers l).of_sameTimers rfl rfl rfl rfl
    · rw [excluded]
      exact .excludedRecord _
  · intro l a active
    rw [taken.active] at active
    have threshold : b.config.strikeThreshold = a.record.strikeThreshold := by simp [Blocks.config, active]
    obtain ⟨atMost, below⟩ := h.strikes l a active
    rcases taken.lanes l with same | ⟨voting, strikes, count, ⟨short, struck⟩ | excluded⟩
    · rw [same]
      exact ⟨atMost, below⟩
    · rw [threshold] at short
      rw [struck]
      exact ⟨Nat.le_of_lt short, fun _ => short⟩
    · have state : (b.lanes.row l).state = .voting := voting
      have was := below (by simp [state])
      rw [excluded]
      exact ⟨Nat.le_trans count was, fun out => absurd rfl out⟩

theorem restartLeases (h : RecordsLawful b) : RecordsLawful b.restartVotingLeases := by
  have row : ∀ l, b.restartVotingLeases.lanes.row l = if (b.lanes.row l).state = .voting
      then { b.lanes.row l with lease := some b.config.lease } else b.lanes.row l := fun l => Table.row_mapRows ..
  constructor
  · intro l
    have timers := h.timers l
    rw [row]
    split
    · rename_i voting
      exact ⟨by simp [voting], timers.grace, timers.returns⟩
    · exact timers
  · intro l a active
    obtain ⟨atMost, below⟩ := h.strikes l a active
    rw [row]
    split <;> exact ⟨atMost, below⟩

theorem timers_switchedRecord {r : LaneRecord} (timers : TimersLawful r) (config : ConfigRecord) (l : Lane) :
    TimersLawful (Blocks.switchedRecord config l r) := by
  unfold Blocks.switchedRecord
  split
  · exact timers
  split
  · exact .absentRecord _
  split
  · rename_i linked
    obtain ⟨returns, grace⟩ := timers.outside_suspect (by simp [linked])
    exact ⟨by simp, by simp [grace], by simp [returns]⟩
  · exact timers

/-- A switch sets every strike count to 0, and no valid configuration has a threshold of 0. -/
theorem switched (h : RecordsLawful b) {p : PendingRecord} (switched : Switched b p d)
    (valid : validate p.image = none) : RecordsLawful d := by
  constructor
  · intro l
    rw [switched.lanes]
    exact (timers_switchedRecord (h.timers l) _ l).of_sameTimers rfl rfl rfl rfl
  · intro l a active
    rw [switched.active] at active
    cases active
    rw [switched.lanes]
    exact ⟨Nat.zero_le _, fun _ => strikeThreshold_pos valid⟩

theorem runs {s : State} (images : ImagesValid s) (start : RecordsLawful s.toBlocks)
    (chain : Runs s.staging s.toBlocks b) : RecordsLawful b := by
  induction chain with
  | refl => exact start
  | aside _ kept ih => exact ih.congr kept.lanes kept.active
  | ballots _ _ _ ih => exact ih.congr rfl rfl
  | pending _ _ _ _ ih => exact ih.congr rfl rfl
  | dropPending _ ih => exact ih.congr rfl rfl
  | writeLane _ write ih => exact ih.put rfl rfl (ih.timers_write write) (ih.strikes_write write)
  | @placeLane _ before l _ move ih =>
    refine ih.put (l := l) (by simp) (by simp) (ih.timers_move move) fun a active => ih.strikes_move move active ?_
    obtain ⟨m, valid, decoded⟩ := (ConfigsHeld.runs images before).active a active
    rw [decoded]
    exact strikeThreshold_pos valid
  | restartLeases _ ih => exact ih.restartLeases
  | report _ taken ih => exact ih.report taken
  | veto _ _ _ _ _ _ ih => exact ih.congr rfl rfl
  | round _ _ ih => exact ih.congr rfl rfl
  | switched before pending switched ih =>
    exact ih.switched switched ((ConfigsHeld.runs images before).pending _ pending)

/-- Time stops no timer. -/
theorem timersLater (h : RecordsLawful b) : RecordsLawful b.timersLater := by
  have row : ∀ l, b.timersLater.lanes.row l = b.lanes.row l ∨ b.timersLater.lanes.row l = { b.lanes.row l with
      lease := Timer.later (b.lanes.row l).lease, grace := Timer.later (b.lanes.row l).grace } := by
    intro l
    simp only [Blocks.timersLater]
    split
    · exact .inr (Table.row_mapRows ..)
    · exact .inl rfl
  constructor
  · intro l
    have timers := h.timers l
    rcases row l with same | later
    · rw [same]
      exact timers
    · rw [later]
      exact ⟨by simpa [Timer.later] using timers.lease, by simpa [Timer.later] using timers.grace, timers.returns⟩
  · intro l a active
    obtain ⟨atMost, below⟩ := h.strikes l a active
    rcases row l with same | later
    · rw [same]
      exact ⟨atMost, below⟩
    · rw [later]
      exact ⟨atMost, below⟩

end RecordsLawful

/-- Settles O15: a reset leaves every lane ABSENT, time stops no timer, and any other event is a chain that keeps the
records lawful. -/
theorem laneRecordLawKept : Obligations.LaneRecordLawKept := by
  intro s t images law next
  have lawful := (laneRecordLaw_iff s).mp law
  refine (laneRecordLaw_iff t).mpr ?_
  rcases reset_or_later_or_runs (step_blocksEvent next) with ⟨record, reset⟩ | later | chain
  · have absent := (laneRecordLaw_iff State.reset).mp laneRecordLaw_reset
    rw [reset]
    exact absent.congr rfl rfl
  · rw [later]
    exact lawful.timersLater
  · exact lawful.runs images chain

end Sys2Proof.Machine
end

section
/-! # The membership law (04 R55, 08 R128) -/

namespace Sys2Proof.Machine

/-- A lane whose state says that the active configuration enrols it. -/
abbrev Member (b : Blocks) (l : Lane) : Prop := b.laneState l ≠ .absent ∧ b.laneState l ≠ .linked

/-- The membership law of the blocks. -/
structure MembersLawful (b : Blocks) : Prop where
  unconfigured : b.device = .unconfigured → b.active = none
  linked : ∀ l, b.laneState l = .linked → b.active = none ∧ (b.device = .unconfigured ∨ b.device = .lockout)
  enrolled : ∀ l, Member b l → b.config.enrolled.has l = true
  vetoing : ∀ l c, (b.output.vetoes.row l).has c = true →
    Member b l ∧ b.laneState l ≠ .excluded ∧ b.channelType c ≠ .unused

/-- No lane is enrolled while no configuration is active. -/
theorem Blocks.enrolled_iff (b : Blocks) (l : Lane) :
    b.config.enrolled.has l = true ↔ ∃ a, b.active = some a ∧ a.record.enrolled.has l = true := by
  unfold config
  cases b.active with
  | none => simp [ConfigRecord.noneActive]
  | some a => simp

theorem membershipLaw_iff (s : State) : MembershipLaw s ↔ MembersLawful s.toBlocks := by
  have may (l : Lane) : (s.laneState l = .candidate ∨ s.laneState l = .voting ∨ s.laneState l = .suspect) ↔
      Member s.toBlocks l ∧ s.laneState l ≠ .excluded := by
    cases state : s.laneState l <;> simp [Member, state]
  constructor
  · rintro ⟨unconfigured, linked, enrolled, vetoing⟩
    refine ⟨unconfigured, linked, fun l ⟨present, notLinked⟩ => (Blocks.enrolled_iff _ l).mpr (enrolled l present notLinked),
      fun l c held => ?_⟩
    obtain ⟨state, used⟩ := vetoing l c held
    obtain ⟨member, notExcluded⟩ := (may l).mp state
    exact ⟨member, notExcluded, used⟩
  · intro law
    refine ⟨law.unconfigured, law.linked,
      fun l present notLinked => (Blocks.enrolled_iff _ l).mp (law.enrolled l ⟨present, notLinked⟩), fun l c held => ?_⟩
    obtain ⟨member, notExcluded, used⟩ := law.vetoing l c held
    exact ⟨(may l).mpr ⟨member, notExcluded⟩, used⟩

namespace MembersLawful

variable {b d : Blocks}

theorem congr (h : MembersLawful b) (device : d.device = b.device) (state : ∀ l, d.laneState l = b.laneState l)
    (active : d.active = b.active) (vetoes : d.output.vetoes = b.output.vetoes) : MembersLawful d where
  unconfigured := by rw [device, active]; exact h.unconfigured
  linked l := by rw [state, active, device]; exact h.linked l
  enrolled l := by rw [Member, state, Blocks.config_congr active]; exact h.enrolled l
  vetoing l c := by rw [Member, state, vetoes, Blocks.channelType_congr active]; exact h.vetoing l c

/-- LINKED lanes there are only before the first switch and in LOCKOUT (04 R55). -/
theorem not_linked (h : MembersLawful b) (configured : b.device ≠ .unconfigured) (live : b.device ≠ .lockout) (l : Lane) :
    b.laneState l ≠ .linked := by
  intro linked
  obtain ⟨-, device⟩ := h.linked l linked
  exact device.elim configured live

/-- A device state that is not UNCONFIGURED, reached where no lane is LINKED, or in LOCKOUT. -/
theorem device (h : MembersLawful b) {next : DeviceState} {v : VoteEngine} (configured : next ≠ .unconfigured)
    (settled : next = .lockout ∨ ∀ l, b.laneState l ≠ .linked) : MembersLawful { b with vote := v, device := next } where
  unconfigured device := absurd device configured
  linked l linked := by
    rcases settled with lockout | settled
    · obtain ⟨inactive, -⟩ := h.linked l linked
      exact ⟨inactive, .inr lockout⟩
    · exact absurd linked (settled l)
  enrolled := h.enrolled
  vetoing := h.vetoing

theorem round (h : MembersLawful b) {v : VoteEngine} {next : DeviceState} (move : RoundMove b v next) :
    MembersLawful { b with vote := v, device := next } := by
  cases move with
  | committed _ _ => exact h.congr rfl (fun _ => rfl) rfl rfl
  | proposed l entries _ => exact h.congr rfl (fun _ => rfl) rfl rfl
  | opened idle _ =>
    refine h.device (by simp) (.inr (h.not_linked ?_ ?_))
    · rcases idle with idle | idle <;> simp [idle]
    · rcases idle with idle | idle <;> simp [idle]
  | discarded running => exact h.device (by simp) (.inr (h.not_linked (by simp [running]) (by simp [running])))
  | abandoned => exact h.device (by simp) (.inl rfl)

/-- The state a move of a lane brings, and what the law asks of it. -/
theorem state_of_move (h : MembersLawful b) {l : Lane} {r : LaneRecord} (move : LaneMove b l r) :
    (r.state = .linked → b.active = none ∧ (b.device = .unconfigured ∨ b.device = .lockout)) ∧
    (r.state ≠ .absent → r.state ≠ .linked → b.config.enrolled.has l = true) ∧
    (r.state ≠ .absent → r.state ≠ .excluded → ∀ c, (b.output.vetoes.row l).has c = true →
      r.state ≠ .linked ∧ b.channelType c ≠ .unused) := by
  have member : Member b l → b.config.enrolled.has l = true := h.enrolled l
  have used : ∀ c, (b.output.vetoes.row l).has c = true → b.channelType c ≠ .unused := by
    intro c held
    obtain ⟨-, -, used⟩ := h.vetoing l c held
    exact used
  cases move with
  | linked state unconfigured =>
    refine ⟨fun _ => ⟨h.unconfigured unconfigured, .inl unconfigured⟩, by simp, fun _ _ c held => ?_⟩
    obtain ⟨⟨present, -⟩, -⟩ := h.vetoing l c held
    exact absurd state present
  | joined lease state enrolled => exact ⟨by simp, fun _ _ => enrolled, fun _ _ c held => ⟨by simp, used c held⟩⟩
  | admitted ready =>
    refine ⟨by simp, fun _ _ => member ?_, fun _ _ c held => ⟨by simp, used c held⟩⟩
    obtain state | ⟨state, -⟩ := (b.readyForAdmission_iff l).mp ready <;> simp [Member, state]
  | left _ _ => exact ⟨by simp [Blocks.absentRecord], by simp [Blocks.absentRecord], by simp [Blocks.absentRecord]⟩
  | suspected grace state =>
    exact ⟨by simp, fun _ _ => member (by simp [Member, state]), fun _ _ c held => ⟨by simp, used c held⟩⟩
  | excluded state =>
    exact ⟨by simp [Blocks.excludedRecord], fun _ _ => member (by simp [Member, state]), by simp [Blocks.excludedRecord]⟩
  | readmitted lease state =>
    exact ⟨by simp, fun _ _ => member (by simp [Member, state]), fun _ _ c held => ⟨by simp, used c held⟩⟩

theorem placeLane (h : MembersLawful b) {l : Lane} {r : LaneRecord} (move : LaneMove b l r) :
    MembersLawful (b.placeLane l r) := by
  obtain ⟨linked, enrolled, vetoing⟩ := h.state_of_move move
  have state : ∀ m, (b.placeLane l r).laneState m = if l = m then r.state else b.laneState m := by
    intro m
    rw [← Blocks.laneState_setLane]
    exact Blocks.laneState_congr (by simp) m
  constructor
  case unconfigured => simpa using h.unconfigured
  case linked =>
    intro m
    rw [state]
    split
    · simpa using linked
    · simpa using h.linked m
  case enrolled =>
    intro m
    rw [Member, state, Blocks.config_congr (d := b) (by simp)]
    split
    · rename_i same
      exact fun ⟨present, notLinked⟩ => same ▸ enrolled present notLinked
    · exact h.enrolled m
  case vetoing =>
    intro m c held
    rw [Blocks.channelType_congr (d := b) (by simp), Member, state]
    rw [Blocks.vetoes_placeLane] at held
    by_cases same : l = m
    · subst same
      rw [if_pos rfl]
      by_cases loses : Blocks.losesVetoes r.state = true
      · simp [loses] at held
      · rw [if_neg loses] at held
        simp only [Blocks.losesVetoes, Bool.or_eq_true, beq_iff_eq, not_or] at loses
        obtain ⟨present, notExcluded⟩ := loses
        obtain ⟨notLinked, used⟩ := vetoing present notExcluded c held
        exact ⟨⟨present, notLinked⟩, notExcluded, used⟩
    · rw [if_neg same]
      refine h.vetoing m c ?_
      split at held
      · rwa [Table.row_put_of_ne _ same] at held
      · exact held

/-- A close takes a lane to no other state but from VOTING to EXCLUDED, the admissions apart. -/
theorem state_of_report (taken : ReportTaken b d) (l : Lane) :
    d.laneState l = b.laneState l ∨ (b.laneState l = .voting ∧ d.laneState l = .excluded) := by
  unfold Blocks.laneState
  rcases taken.lanes l with same | ⟨voting, strikes, -, ⟨-, struck⟩ | excluded⟩
  · exact .inl (by rw [same])
  · exact .inl (by rw [struck])
  · exact .inr ⟨voting, by rw [excluded]; rfl⟩

theorem report (h : MembersLawful b) (taken : ReportTaken b d) : MembersLawful d where
  unconfigured := by rw [taken.device, taken.active]; exact h.unconfigured
  linked l := by
    rw [taken.active, taken.device]
    rcases state_of_report taken l with same | ⟨-, excluded⟩
    · rw [same]
      exact h.linked l
    · simp [excluded]
  enrolled l := by
    rw [Blocks.config_congr taken.active, Member]
    rcases state_of_report taken l with same | ⟨voting, -⟩
    · rw [same]
      exact h.enrolled l
    · exact fun _ => h.enrolled l (by simp [Member, voting])
  vetoing l c held := by
    obtain ⟨before, same⟩ := taken.vetoes l c held
    rw [Member, same, Blocks.channelType_congr taken.active]
    exact h.vetoing l c before

/-- The states a switch leaves (04 R72). -/
theorem state_of_switched {p : PendingRecord} (switched : Switched b p d) (l : Lane) : d.laneState l ≠ .linked ∧
    (d.laneState l ≠ .absent → (decodeConfig p.image).enrolled.has l = true) ∧
    ((decodeConfig p.image).enrolled.has l = true → Member b l → d.laneState l = b.laneState l) := by
  unfold Member Blocks.laneState
  rw [switched.lanes]
  simp only [Blocks.switchedRecord]
  by_cases absent : (b.lanes.row l).state = .absent
  · simp [absent]
  by_cases enrolled : (decodeConfig p.image).enrolled.has l = true
  · by_cases linked : (b.lanes.row l).state = .linked <;> simp [absent, enrolled, linked]
  · simp [absent, enrolled, Blocks.absentRecord]

theorem switched (h : MembersLawful b) {p : PendingRecord} (switched : Switched b p d) : MembersLawful d := by
  have config : d.config = decodeConfig p.image := by simp [Blocks.config, switched.active]
  constructor
  case unconfigured =>
    rw [switched.device, Blocks.deviceAfterSwitch]
    split <;> simp [*]
  case linked =>
    intro l linked
    obtain ⟨notLinked, -⟩ := state_of_switched switched l
    exact absurd linked notLinked
  case enrolled =>
    rintro l ⟨present, -⟩
    obtain ⟨-, enrolled, -⟩ := state_of_switched switched l
    rw [config]
    exact enrolled present
  case vetoing =>
    intro l c held
    rw [switched.vetoes] at held
    split at held
    · simp at held
    · rename_i stays
      rw [IndexSet.has_ofPred, Bool.and_eq_true, bne_iff_ne] at held
      obtain ⟨before, used⟩ := held
      obtain ⟨member, notExcluded, -⟩ := h.vetoing l c before
      have enrolled : (decodeConfig p.image).enrolled.has l = true := by
        by_contra out
        obtain ⟨present, -⟩ := member
        exact stays ⟨present, by simpa using out⟩
      obtain ⟨-, -, same⟩ := state_of_switched switched l
      rw [Member, same enrolled member, Blocks.channelType, Blocks.entry, config]
      exact ⟨member, notExcluded, used⟩

theorem veto (h : MembersLawful b) {l : Lane} {set : ChannelSet}
    (configured : b.device ≠ .lockout ∧ b.device ≠ .unconfigured)
    (member : b.laneState l ≠ .absent ∧ b.laneState l ≠ .excluded)
    (used : ∀ c, set.has c = true → (b.output.vetoes.row l).has c = true ∨ b.channelType c ≠ .unused) :
    MembersLawful { b with output := { b.output with vetoes := b.output.vetoes.put l set } } where
  unconfigured := h.unconfigured
  linked := h.linked
  enrolled := h.enrolled
  vetoing m c held := by
    obtain ⟨live, configured⟩ := configured
    obtain ⟨present, notExcluded⟩ := member
    simp only [Table.row_put] at held
    split at held
    · rename_i same
      subst same
      refine ⟨⟨present, h.not_linked configured live l⟩, notExcluded, ?_⟩
      rcases used c held with before | used
      · obtain ⟨-, -, used⟩ := h.vetoing l c before
        exact used
      · exact used
    · exact h.vetoing m c held

theorem runs {staging : Staging} {a : Blocks} (start : MembersLawful a) (chain : Runs staging a b) : MembersLawful b := by
  induction chain with
  | refl => exact start
  | aside _ kept ih => exact ih.congr kept.device (Blocks.laneState_congr kept.lanes) kept.active kept.vetoes
  | ballots _ _ _ ih => exact ih.congr rfl (fun _ => rfl) rfl rfl
  | pending _ _ _ _ ih => exact ih.congr rfl (fun _ => rfl) rfl rfl
  | dropPending _ ih => exact ih.congr rfl (fun _ => rfl) rfl rfl
  | @writeLane between _ l r write ih =>
    refine ih.congr rfl (fun m => ?_) rfl rfl
    rw [Blocks.laneState_setLane]
    split
    · rename_i same
      cases write <;> exact same ▸ rfl
    · rfl
  | placeLane _ move ih => exact ih.placeLane move
  | @restartLeases between _ ih =>
    refine ih.congr rfl (fun l => ?_) rfl rfl
    simp only [Blocks.laneState, Blocks.restartVotingLeases, Table.row_mapRows]
    split <;> rfl
  | report _ taken ih => exact ih.report taken
  | veto _ l set configured member used ih => exact ih.veto configured member used
  | round _ move ih => exact ih.round move
  | switched _ _ switched ih => exact ih.switched switched

theorem timersLater (h : MembersLawful b) : MembersLawful b.timersLater := by
  refine h.congr rfl (fun l => ?_) rfl rfl
  simp only [Blocks.laneState, Blocks.timersLater]
  split
  · rw [Table.row_mapRows]
  · rfl

end MembersLawful

/-- Settles O16: a reset leaves every lane ABSENT and no configuration, time moves no lane, and any other event is a chain
that keeps the law. -/
theorem membershipLawKept : Obligations.MembershipLawKept := by
  intro s t law next
  have lawful := (membershipLaw_iff s).mp law
  refine (membershipLaw_iff t).mpr ?_
  rcases reset_or_later_or_runs (step_blocksEvent next) with ⟨record, reset⟩ | later | chain
  · have absent := (membershipLaw_iff State.reset).mp membershipLaw_reset
    rw [reset]
    exact absent.congr rfl (fun _ => rfl) rfl rfl
  · rw [later]
    exact lawful.timersLater
  · exact lawful.runs chain

end Sys2Proof.Machine
end

section
/-! # The images of the part stay valid (07 R111, R112, R119, 06 R97) -/

namespace Sys2Proof.Machine

/-- A sealed image passed the checks of a seal, and the seal timer runs only while the seal is in flight. -/
structure AreaValid (area : StagingArea) : Prop where
  isSealed : area.state = .sealed → validate area.image = none
  timer : area.sealTimer.isSome = true → area.state = .sealing

/-- Every supporter of a COMMIT_CONFIG ballot holds the image it supports. -/
def SupportersCarry (staging : Staging) (b : Blocks) : Prop :=
  ∀ x ∈ b.ballots, ∀ d, x.action = .commitConfig d → ∀ l, x.supporters.has l = true → (staging.row l).carries d = true

theorem imagesValid_iff (s : State) : ImagesValid s ↔
    (∀ l, AreaValid (s.staging.row l)) ∧ ConfigsHeld s.toBlocks ∧ SupportersCarry s.staging s.toBlocks := by
  constructor
  · rintro ⟨isSealed, timer, pending, carried, active⟩
    exact ⟨fun l => ⟨isSealed l, timer l⟩, ⟨pending, active⟩, carried⟩
  · rintro ⟨areas, ⟨pending, active⟩, carried⟩
    exact ⟨fun l => (areas l).isSealed, fun l => (areas l).timer, pending, carried, active⟩

/-! ## The areas -/

namespace AreaValid

variable {area : StagingArea}

theorem written (h : AreaValid area) (offset : Nat) (data : List Byte) (opened : area.state = .opened) :
    AreaValid (area.written offset data) :=
  ⟨fun isSealed => by simp [StagingArea.written, opened] at isSealed, h.timer⟩

theorem beginSeal (area : StagingArea) : AreaValid area.beginSeal :=
  ⟨fun isSealed => by simp [StagingArea.beginSeal] at isSealed, fun _ => rfl⟩

theorem reopened (h : AreaValid area) (isSealed : area.state = .sealed) : AreaValid area.reopened := by
  refine ⟨fun again => by simp [StagingArea.reopened] at again, fun runs => ?_⟩
  have sealing := h.timer runs
  simp [isSealed] at sealing

/-- A seal completes as SEALED only when its image passes every check (07 R115). -/
theorem completed (area : StagingArea) : AreaValid area.completed := by
  unfold StagingArea.completed
  split
  · rename_i valid
    exact ⟨fun _ => valid, by simp⟩
  · exact ⟨by simp, by simp⟩

theorem later (h : AreaValid area) : AreaValid { area with sealTimer := Timer.later area.sealTimer } :=
  ⟨h.isSealed, by simpa [Timer.later] using h.timer⟩

end AreaValid

theorem not_carries_of_not_sealed {area : StagingArea} (h : area.state ≠ .sealed) (d : Digest) :
    area.carries d = false := by
  simp [StagingArea.carries, h]

/-! ## The supporters -/

namespace SupportersCarry

variable {staging : Staging} {b d : Blocks}

theorem of_carried (h : SupportersCarry staging b) {l : Lane} {e : Digest} (carried : Carried staging b l e) :
    (staging.row l).carries e = true := by
  rcases carried with carries | ⟨x, listed, action, supports⟩
  · exact carries
  · exact h x listed e action l supports

theorem thin (h : SupportersCarry staging b) (thins : BallotsThin b d) : SupportersCarry staging d := by
  intro y listed e action l supports
  obtain ⟨x, old, same, more⟩ := thins y listed
  exact h x old e (same.trans action) l (more l supports)

theorem runs {a : Blocks} (law : TableLawful a) (start : SupportersCarry staging a) (chain : Runs staging a b) :
    SupportersCarry staging b := by
  induction chain with
  | refl => exact start
  | aside _ kept ih => exact ih.thin kept.ballots
  | ballots _ _ carried ih => exact fun y listed e action l supports => ih.of_carried (carried law y listed e action l supports)
  | pending _ _ _ _ ih => exact ih
  | dropPending _ ih => exact ih
  | writeLane _ _ ih => exact ih
  | placeLane _ _ ih => exact ih.thin (.of_same (by simp))
  | restartLeases _ ih => exact ih
  | report _ taken ih => exact ih.thin taken.ballots
  | veto _ _ _ _ _ _ ih => exact ih
  | round _ _ ih => exact ih
  | switched _ _ switched ih => exact ih.thin (.of_nil switched.ballots)

/-- A staging area written that carried nothing. -/
theorem put (h : SupportersCarry staging b) {l : Lane} (free : (staging.row l).state ≠ .sealed) (area : StagingArea) :
    SupportersCarry (staging.put l area) b := by
  intro x listed e action m supports
  have carries := h x listed e action m supports
  have other : l ≠ m := by
    rintro rfl
    rw [not_carries_of_not_sealed free] at carries
    cases carries
  rwa [Table.row_put_of_ne _ other]

/-- A lane whose image is reopened supports no COMMIT_CONFIG ballot any more: it held the image of one only. -/
theorem not_supports_afterReopening (h : SupportersCarry staging b) {l : Lane} {y : Ballot}
    (listed : y ∈ (b.afterReopening staging l).ballots) {e : Digest} (action : y.action = .commitConfig e) :
    y.supporters.has l = false := by
  rw [← Bool.not_eq_true]
  intro supports
  unfold Blocks.afterReopening at listed
  split at listed
  · rename_i d digest
    rw [Blocks.imageReopened, Blocks.ballots_removeSupporter, List.mem_filter, List.mem_map] at listed
    obtain ⟨⟨x, old, rfl⟩, -⟩ := listed
    split at supports
    · simp [IndexSet.has_erase] at supports
    · rename_i other
      rw [if_neg other] at action
      obtain ⟨-, carries⟩ := ((staging.row l).carries_iff e).mp (h x old e action l supports)
      rw [digest] at carries
      cases carries
      exact other (by simp [action])
  · rename_i none
    obtain ⟨-, carries⟩ := ((staging.row l).carries_iff e).mp (h y listed e action l supports)
    rw [none] at carries
    cases carries

theorem ballotsThin_afterReopening (b : Blocks) (staging : Staging) (l : Lane) :
    BallotsThin b (b.afterReopening staging l) := by
  unfold Blocks.afterReopening
  split
  · exact ballotsThin_removeSupporter b l _
  · exact .of_same rfl

/-- A reopened image takes its lane out of the one ballot that its digest names (07 R117). -/
theorem reopened (h : SupportersCarry staging b) (l : Lane) :
    SupportersCarry (staging.put l (staging.row l).reopened) (b.afterReopening staging l) := by
  intro y listed e action m supports
  have other : l ≠ m := by
    rintro rfl
    rw [h.not_supports_afterReopening listed action] at supports
    cases supports
  rw [Table.row_put_of_ne _ other]
  exact h.thin (ballotsThin_afterReopening b staging l) y listed e action m supports

end SupportersCarry

/-! ## Events -/

namespace ImagesValid

theorem areas {s : State} (h : ImagesValid s) : ∀ l, AreaValid (s.staging.row l) := ((imagesValid_iff s).mp h).1

theorem supportersCarry {s : State} (h : ImagesValid s) : SupportersCarry s.staging s.toBlocks :=
  ((imagesValid_iff s).mp h).2.2

/-- Blocks at the end of a chain, the staging areas as they were. -/
theorem runs {s t : State} (images : ImagesValid s) (law : TableLawful s.toBlocks)
    (chain : Runs s.staging s.toBlocks t.toBlocks) (staging : t.staging = s.staging) : ImagesValid t := by
  refine (imagesValid_iff t).mpr ⟨?_, ConfigsHeld.runs images chain, ?_⟩
  · rw [staging]
    exact images.areas
  · rw [staging]
    exact images.supportersCarry.runs law chain

theorem same {s t : State} (images : ImagesValid s) (blocks : t.toBlocks = s.toBlocks) (staging : t.staging = s.staging) :
    ImagesValid t := by
  unfold ImagesValid
  rw [blocks, staging]
  exact images

/-- One staging area written that held no sealed image, the blocks as they were. -/
theorem put {s t : State} (images : ImagesValid s) {l : Lane} {area : StagingArea} (blocks : t.toBlocks = s.toBlocks)
    (staging : t.staging = s.staging.put l area) (free : (s.staging.row l).state ≠ .sealed) (valid : AreaValid area) :
    ImagesValid t := by
  refine (imagesValid_iff t).mpr ⟨fun m => ?_, blocks ▸ images.configsHeld, ?_⟩
  · rw [staging, Table.row_put]
    split
    · exact valid
    · exact images.areas m
  · rw [staging, blocks]
    exact images.supportersCarry.put free area

/-- A seal in flight completes: the area held no sealed image before. -/
theorem completeSeal {s : State} (images : ImagesValid s) {l : Lane} {left : Nat}
    (sealing : (s.staging.row l).sealTimer = some left) : ImagesValid (s.completeSeal l) := by
  have state := (images.areas l).timer (by simp [sealing])
  exact images.put rfl rfl (by simp [state]) (.completed _)

/-- A request taken by its owner. -/
theorem takeRequest {s : State} (images : ImagesValid s) (law : TableLawful s.toBlocks) (l : Lane) (k q kind : Byte)
    (p : List Byte) (evalB : Option Evaluation) : ImagesValid (s.takeRequest l k q (handlerOf l kind p evalB)) := by
  have chain := runs_handled s.toBlocks s.staging l kind p evalB
  have effect := servedEffect_handlerOf s.toBlocks s.staging l kind p evalB
  obtain ⟨blocks, staging, -⟩ := s.takeRequest_kept l k q (handlerOf l kind p evalB)
  generalize s.takeRequest l k q (handlerOf l kind p evalB) = t at blocks staging ⊢
  generalize handlerOf l kind p evalB s.toBlocks s.staging = served at chain effect blocks staging
  cases effect with
  | answered after o payload gap => exact images.runs law (blocks ▸ chain) staging
  | written offset data opened =>
    exact images.put blocks staging (by simp [opened]) ((images.areas l).written offset data opened)
  | sealing opened => exact images.put blocks staging (by simp [opened]) (.beginSeal _)
  | reopened isSealed =>
    have areas := images.areas
    refine (imagesValid_iff t).mpr ⟨fun m => ?_, blocks ▸ ConfigsHeld.runs images chain, ?_⟩
    · rw [staging, unchanged, Table.row_put]
      split
      · exact (areas l).reopened isSealed
      · exact areas m
    · rw [staging, blocks]
      exact images.supportersCarry.reopened l

theorem frame {s t : State} {l : Lane} (images : ImagesValid s) (law : TableLawful s.toBlocks)
    (effect : FrameEffect s l t) : ImagesValid t := by
  cases effect with
  | discarded => exact images
  | refused o q => exact images.same rfl rfl
  | taken k q kind p evalB _ => exact images.takeRequest law l k q kind p evalB
  | linkReset k q => exact images.same rfl rfl

theorem sealTimer_of_timer {s : State} {l : Lane} {left : Nat} (h : s.timer (.sealing l) = some left) :
    (s.staging.row l).sealTimer = some left := by
  unfold State.timer at h
  split at h
  · cases h
  · exact h

theorem later {s : State} (images : ImagesValid s) : ImagesValid s.timersLater := by
  refine (imagesValid_iff _).mpr ⟨fun l => ?_, images.configsHeld.congr rfl rfl, ?_⟩
  · simpa [State.timersLater] using (images.areas l).later
  · intro y listed d action l supports
    obtain ⟨x, old, rfl⟩ := List.mem_map.mp listed
    have carries := images.supportersCarry x old d action l supports
    simpa [State.timersLater, StagingArea.carries] using carries

theorem event {s t : State} (images : ImagesValid s) (law : TableLawful s.toBlocks) (event : StateEvent s t) :
    ImagesValid t := by
  cases event with
  | unchanged => exact images
  | transaction l x _ => exact images.same rfl rfl
  | frame l _ effect => exact images.frame law effect
  | released l delivered _ effect =>
    have settled : ImagesValid (s.settleDelivery l delivered) := images.same rfl rfl
    exact settled.frame law effect
  | expired n evalB due =>
    rcases s.expire_cases evalB n with ⟨l, rfl, done⟩ | ⟨staging, -⟩
    · rw [done]
      exact (images.completeSeal (sealTimer_of_timer due)).same rfl rfl
    · exact images.runs law (runs_expired s due evalB) staging
  | completed l left sealing => exact (images.completeSeal (sealTimer_of_timer sealing)).same rfl rfl
  | readback c level _ => exact images.runs law (Runs.refl.readbackChanges c level) rfl
  | storeCheck _ _ => exact images.runs law (Runs.refl.enterLockout .storeCheck) rfl
  | later _ => exact images.later

end ImagesValid

/-- The active configuration is decoded from an image that passed checks 1 and 2 of 07 R119. -/
theorem configLaw_of_imagesValid {s : State} (images : ImagesValid s) : ConfigLaw s := by
  intro a active
  obtain ⟨m, valid, decoded⟩ := images.configsHeld.active a active
  have enrolled := ok_of_require (eq_none_of_firstFailure valid
    (x := require (decide (2 ≤ IndexSet.size (imageEnrolled m)) && decide (Memory.u8 m 0 < 16)) .enrolled) (by simp))
  have quorum := ok_of_require (eq_none_of_firstFailure valid
    (x := require (decide (IndexSet.size (imageEnrolled m) < 2 * imageQuorum m)
      && decide (imageQuorum m ≤ IndexSet.size (imageEnrolled m))) .quorum) (by simp))
  simp only [Bool.and_eq_true, decide_eq_true_eq] at enrolled quorum
  obtain ⟨two, -⟩ := enrolled
  obtain ⟨half, most⟩ := quorum
  rw [decoded]
  exact ⟨half, most, two⟩

/-- Settles O18: every event keeps the images valid, with the supporters that rely on them; and a valid image has a legal
quorum. -/
theorem activeConfigurationStaysLegal : Obligations.ActiveConfigurationStaysLegal := by
  refine ⟨fun s t law images next => ?_, fun s => configLaw_of_imagesValid⟩
  refine step_leads (P := fun s => TableLawful s.toBlocks ∧ ImagesValid s) (Q := ImagesValid) (fun _ _ _ holds => holds)
    (fun _ _ _ images => images) (fun s record power _ => ?reset) (fun s t ⟨law, images⟩ happens => images.event law happens)
    ⟨(ballotLaw_iff s).mp law, images⟩ next
  case reset => exact imagesValid_reset

end Sys2Proof.Machine
end

section
/-! # The images stay in the canonical form (07 R112)

An image is written by STAGE_WRITE alone; the pending record is a copy of a staging image. -/

namespace Sys2Proof.Machine

/-- The image of the pending record is in the canonical form. -/
def PendingCanonical (b : Blocks) : Prop := ∀ p, b.pendingRecord = some p → Memory.wf p.image

theorem PendingCanonical.runs {staging : Staging} {a b : Blocks} (areas : ∀ l, Memory.wf (staging.row l).image)
    (start : PendingCanonical a) (chain : Runs staging a b) : PendingCanonical b := by
  induction chain with
  | refl => exact start
  | aside _ kept ih => exact fun p set => ih p (kept.pending ▸ set)
  | ballots _ _ _ ih => exact ih
  | pending _ l _ _ _ =>
    intro p set
    cases set
    exact areas l
  | dropPending _ _ => exact fun p set => nomatch set
  | writeLane _ _ ih => exact ih
  | placeLane _ _ ih => exact fun p set => ih p (by simpa using set)
  | restartLeases _ ih => exact ih
  | report _ taken ih => exact fun p set => ih p (taken.pending ▸ set)
  | veto _ _ _ _ _ _ ih => exact ih
  | round _ _ ih => exact ih
  | switched _ _ switched _ => exact fun p set => by simp [switched.pending] at set

namespace ImagesCanonical

variable {s t : State}

theorem runs (law : ImagesCanonical s) (chain : Runs s.staging s.toBlocks t.toBlocks) (staging : t.staging = s.staging) :
    ImagesCanonical t := by
  obtain ⟨areas, pending⟩ := law
  exact ⟨staging ▸ areas, PendingCanonical.runs areas pending chain⟩

theorem same (law : ImagesCanonical s) (pending : t.pendingRecord = s.pendingRecord) (staging : t.staging = s.staging) :
    ImagesCanonical t := by
  unfold ImagesCanonical
  rw [pending, staging]
  exact law

/-- One staging area written. -/
theorem put (law : ImagesCanonical s) {l : Lane} {area : StagingArea} (pending : PendingCanonical t.toBlocks)
    (staging : t.staging = s.staging.put l area) (canonical : Memory.wf area.image) : ImagesCanonical t := by
  obtain ⟨areas, -⟩ := law
  refine ⟨fun m => ?_, pending⟩
  rw [staging, Table.row_put]
  split
  · exact canonical
  · exact areas m

/-- The completion of a seal leaves the image. -/
theorem completeSeal (law : ImagesCanonical s) (l : Lane) : ImagesCanonical (s.completeSeal l) := by
  have kept : (s.staging.row l).completed.image = (s.staging.row l).image := by
    unfold StagingArea.completed
    split <;> rfl
  obtain ⟨areas, pending⟩ := law
  exact put ⟨areas, pending⟩ (t := s.completeSeal l) pending rfl (kept ▸ areas l)

theorem takeRequest (law : ImagesCanonical s) (l : Lane) (k q kind : Byte) (p : List Byte) (evalB : Option Evaluation) :
    ImagesCanonical (s.takeRequest l k q (handlerOf l kind p evalB)) := by
  have chain := runs_handled s.toBlocks s.staging l kind p evalB
  have effect := servedEffect_handlerOf s.toBlocks s.staging l kind p evalB
  obtain ⟨blocks, staging, -⟩ := s.takeRequest_kept l k q (handlerOf l kind p evalB)
  generalize s.takeRequest l k q (handlerOf l kind p evalB) = t at blocks staging ⊢
  generalize handlerOf l kind p evalB s.toBlocks s.staging = served at chain effect blocks staging
  obtain ⟨areas, pending⟩ := id law
  have after : PendingCanonical t.toBlocks := PendingCanonical.runs areas pending (blocks ▸ chain)
  cases effect with
  | answered _ o payload gap => exact law.runs (blocks ▸ chain) staging
  | written offset data _ => exact law.put after staging ((s.staging.row l).wf_written offset data (areas l))
  | sealing _ => exact law.put after staging (areas l)
  | reopened _ => exact law.put after staging (areas l)

theorem frame {l : Lane} (law : ImagesCanonical s) (effect : FrameEffect s l t) : ImagesCanonical t := by
  cases effect with
  | discarded => exact law
  | refused o q => exact law.same rfl rfl
  | taken k q kind p evalB _ => exact law.takeRequest l k q kind p evalB
  | linkReset k q => exact law.same rfl rfl

theorem event (law : ImagesCanonical s) (event : StateEvent s t) : ImagesCanonical t := by
  cases event with
  | unchanged => exact law
  | transaction l x _ => exact law.same rfl rfl
  | frame l _ effect => exact law.frame effect
  | released l delivered _ effect =>
    have settled : ImagesCanonical (s.settleDelivery l delivered) := law.same rfl rfl
    exact settled.frame effect
  | expired n evalB due =>
    rcases s.expire_cases evalB n with ⟨l, -, done⟩ | ⟨staging, -⟩
    · rw [done]
      exact (law.completeSeal l).same rfl rfl
    · exact law.runs (runs_expired s due evalB) staging
  | completed l left _ => exact (law.completeSeal l).same rfl rfl
  | readback c level _ => exact law.same rfl rfl
  | storeCheck _ _ => exact law.runs (Runs.refl.enterLockout .storeCheck) rfl
  | later _ =>
    obtain ⟨areas, pending⟩ := law
    exact ⟨fun l => by simpa [State.timersLater] using areas l, pending⟩

end ImagesCanonical

/-- Settles O7: every event keeps the staging images canonical, and the pending record with them. -/
theorem imagesStayCanonical : Obligations.ImagesStayCanonical :=
  fun _ _ law next => step_keeps (P := ImagesCanonical) (fun _ _ _ law => law) (fun _ _ _ _ => imagesCanonical_reset)
    (fun _ _ law happens => law.event happens) law next

end Sys2Proof.Machine
end

section
/-! # Renewals, returns and admissions, by device state and lane state (04 R60 to R65) -/

namespace Sys2Proof.Machine

namespace Blocks

variable {b : Blocks} {l : Lane}

/-! ## The renewal that a request carries -/

theorem renew_of_lockout (lockout : b.device = .lockout) : b.renew l = b := by
  simp only [renew, lockout]

theorem renew_of_not_member (state : b.laneState l = .absent ∨ b.laneState l = .linked ∨ b.laneState l = .excluded) :
    b.renew l = b := by
  rcases state with state | state | state
  all_goals
    unfold renew
    rw [state]
    split <;> trivial

theorem renew_of_member (live : b.device ≠ .lockout) (state : b.laneState l = .candidate ∨ b.laneState l = .voting) :
    b.renew l = b.startLease l := by
  rcases state with state | state
  all_goals
    unfold renew
    rw [state]
    split <;> trivial

theorem renew_of_suspect (live : b.device ≠ .lockout) (suspect : b.laneState l = .suspect) :
    b.renew l = if (b.lanes.row l).returnPending then b.startLease l else b.takeReturn l := by
  unfold renew
  rw [suspect]
  split <;> trivial

/-- The record of a SUSPECT lane whose return is taken (04 R63). -/
def returning (b : Blocks) (l : Lane) : LaneRecord :=
  { b.lanes.row l with returnPending := true, grace := none, lease := some b.config.lease }

theorem takeReturn_eq (b : Blocks) (l : Lane) :
    b.takeReturn l = (b.setLane l (b.returning l)).admitOutsideRunning l := rfl

theorem admitOutsideRunning_of_running (running : b.device = .running) : b.admitOutsideRunning l = b := by
  simp only [admitOutsideRunning, running]

theorem admitOutsideRunning_of_idle (idle : b.device = .gathering ∨ b.device = .safeHold) :
    b.admitOutsideRunning l = (b.admitLane l).reportCount := by
  rcases idle with idle | idle
  all_goals simp only [admitOutsideRunning, idle]

/-- In RUNNING a renewal restarts the lease of a SUSPECT lane, with the return taken if it was not (04 R63). -/
theorem renew_of_suspect_running (running : b.device = .running) (suspect : b.laneState l = .suspect) :
    b.renew l = b.setLane l { b.lanes.row l with
      returnPending := true
      grace := if (b.lanes.row l).returnPending = true then (b.lanes.row l).grace else none
      lease := some b.config.lease } := by
  rw [renew_of_suspect (by simp [running]) suspect]
  split
  · rename_i returns
    rw [← returns]
    rfl
  · rw [takeReturn_eq, admitOutsideRunning_of_running (by simpa using running)]
    rfl

/-! ## Admissions -/

/-- A lane admitted from SUSPECT (04 R65). -/
theorem admitLane_of_returning (suspect : b.laneState l = .suspect) (returns : (b.lanes.row l).returnPending = true) :
    b.admitLane l = (b.setLane l { b.lanes.row l with state := .voting, returnPending := false }).post
      (.memberChange l .suspect .voting .returned) := by
  have moved := moveLane_quiet (b := b) (l := l)
    (r := { b.lanes.row l with state := .voting, returnPending := false }) rfl (by simp [suspect])
    (by simp [suspect]) (by simp [suspect]) .returned true
  rw [suspect] at moved
  simp [admitLane, readyForAdmission, suspect, returns, moved]

/-! ## The count reported (05 R79) -/

theorem reportCount_of_safeHold (safeHold : b.device = .safeHold) : b.reportCount = b := by
  simp only [reportCount, safeHold]

theorem reportCount_of_gathering (gathering : b.device = .gathering) :
    b.reportCount = if b.hasQuorum then b.enterRunning else b := by
  simp only [reportCount, gathering]

theorem row_enterRunning (b : Blocks) (l : Lane) : b.enterRunning.lanes.row l = if b.laneState l = .voting
    then { b.lanes.row l with lease := some b.config.lease } else b.lanes.row l :=
  Table.row_mapRows ..

/-- Outside RUNNING a report of the count leaves a VOTING lane with a full lease its record. -/
theorem row_reportCount_of_voting (idle : b.device = .gathering ∨ b.device = .safeHold) (voting : b.laneState l = .voting)
    (lease : (b.lanes.row l).lease = some b.config.lease) : b.reportCount.lanes.row l = b.lanes.row l := by
  rcases idle with gathering | safeHold
  · rw [reportCount_of_gathering gathering]
    split
    · rw [row_enterRunning, if_pos voting, ← lease]
    · rfl
  · rw [reportCount_of_safeHold safeHold]

/-- A return taken outside RUNNING makes the lane VOTING at once (04 R63, R65). -/
theorem row_takeReturn_of_idle (idle : b.device = .gathering ∨ b.device = .safeHold) (suspect : b.laneState l = .suspect) :
    (b.takeReturn l).lanes.row l = { b.lanes.row l with
      state := .voting, returnPending := false, grace := none, lease := some b.config.lease } := by
  have row : (b.setLane l (b.returning l)).lanes.row l = b.returning l := by simp
  have admitted := admitLane_of_returning (b := b.setLane l (b.returning l)) (l := l) (by simpa [returning, laneState] using suspect)
    (by simp [returning])
  rw [takeReturn_eq, admitOutsideRunning_of_idle (by simpa using idle), admitted, row]
  rw [row_reportCount_of_voting (by simpa using idle) (by simp [laneState]) (by simp [returning]; rfl)]
  simp [returning]

end Blocks

end Sys2Proof.Machine
end

section
/-! # Expiries that do not take place (log 3) -/

namespace Sys2Proof.Machine

/-! ## Settle timers after a change of drive -/

theorem settleTime_pos_of_entryInRange {e : ChannelEntry} (inRange : entryInRange e = true) (used : e.type ≠ .unused) :
    1 ≤ e.settleTime := by
  unfold entryInRange at inRange
  split at inRange
  · contradiction
  · simp only [Bool.and_eq_true, decide_eq_true_eq] at inRange
    obtain ⟨⟨-, positive⟩, -⟩ := inRange
    exact positive
  · simp only [Bool.and_eq_true, decide_eq_true_eq] at inRange
    obtain ⟨⟨-, positive⟩, -⟩ := inRange
    exact positive

/-- The settle time of a channel in use is at least 1 ms (07 R119 check 8). -/
theorem settleTime_pos {b : Blocks} (held : ConfigsHeld b) {c : Channel} (used : b.channelType c ≠ .unused) :
    1 ≤ (b.entry c).settleTime := by
  cases active : b.active with
  | none => simp [Blocks.channelType, Blocks.entry, Blocks.config, active, ConfigRecord.noneActive,
      ChannelEntry.unusedEntry] at used
  | some a =>
    obtain ⟨m, valid, decoded⟩ := held.active a active
    have entry : b.entry c = (decodeConfig m).entries.row c := by simp [Blocks.entry, Blocks.config, active, decoded]
    have inRange := channelValid_of_validate valid c
    unfold channelValid at inRange
    rw [Blocks.channelType, entry] at used
    rw [entry]
    simp only [decodeConfig, Table.row_build] at used ⊢
    split at inRange
    · cases inRange
    · rename_i t known
      rw [known] at used ⊢
      exact settleTime_pos_of_entryInRange inRange used

/-- Every drive that differs from that before comes with a settle timer that is not due. -/
def SettlesRun (a b : Blocks) : Prop :=
  ∀ c, (b.channelOutput c).drive = (a.channelOutput c).drive ∨ (b.channelOutput c).settle ≠ some 0

namespace SettlesRun

variable {a b d : Blocks}

theorem congr (h : SettlesRun a b) (channels : d.output.channels = b.output.channels) : SettlesRun a d := by
  intro c
  rw [Blocks.channelOutput_congr_channels channels]
  exact h c

theorem moves (h : SettlesRun a b) (held : ConfigsHeld d)
    (settles : ∀ c, SettleMoves d c (b.channelOutput c) (d.channelOutput c)) : SettlesRun a d := by
  intro c
  rcases settles c with ⟨drive, settle⟩ | stopped | ⟨used, started⟩
  · rw [drive, settle]
    exact h c
  · exact .inr (by simp [stopped])
  · have positive := settleTime_pos held used
    refine .inr ?_
    rw [started, Ne, Option.some.injEq]
    omega

theorem runs {s : State} (images : ImagesValid s) (chain : Runs s.staging s.toBlocks b) : SettlesRun s.toBlocks b := by
  induction chain with
  | refl => exact fun _ => .inl rfl
  | aside before kept ih => exact ih.moves (ConfigsHeld.runs images (before.aside kept)) kept.settles
  | ballots _ _ _ ih => exact ih.congr rfl
  | pending _ _ _ _ ih => exact ih.congr rfl
  | dropPending _ ih => exact ih.congr rfl
  | writeLane _ _ ih => exact ih.congr rfl
  | placeLane _ _ ih => exact ih.congr (by simp)
  | restartLeases _ ih => exact ih.congr rfl
  | report before taken ih => exact ih.moves (ConfigsHeld.runs images (before.report taken)) taken.settles
  | veto _ _ _ _ _ _ ih => exact ih.congr rfl
  | round _ _ ih => exact ih.congr rfl
  | switched before pending switched ih =>
    exact ih.moves (ConfigsHeld.runs images (before.switched pending switched)) switched.settles

end SettlesRun

/-- After a command that changes the drive value of a channel its settle timer is not due. -/
theorem settle_notDue {i : Instr} {s t : State} (images : ImagesValid s) (done : exec i s = .next t) {c : Channel}
    (changed : (t.channelOutput c).drive ≠ (s.channelOutput c).drive) : t.timer (.settle c) ≠ some 0 := by
  have settle : (t.channelOutput c).settle ≠ some 0 := by
    rcases reset_or_later_or_runs (exec_blocksEvent done) with ⟨record, reset⟩ | later | chain
    · rw [reset]
      simp [Blocks.channelOutput, Blocks.reset, OutputStage.reset, ChannelOutput.reset]
    · rw [later] at changed
      simp [Blocks.timersLater, Blocks.channelOutput] at changed
    · exact (SettlesRun.runs images chain c).resolve_left changed
  unfold State.timer
  split
  · simp
  · exact settle

/-! ## Lease and grace after a KEEPALIVE -/

theorem exec_expiry_notDue {s : State} {n : TimerName} {e : Option Evaluation} (notSeal : ∀ l, n ≠ .sealing l)
    (notDue : s.timer n ≠ some 0) : exec (expiryCommand e n) s = .next s := by
  cases n with
  | sealing l => exact absurd rfl (notSeal l)
  | _ => exact congrArg _ (s.expireNow_notDue _ _ notDue)

/-- The renewal of a KEEPALIVE leaves its lane with a full lease, and with a grace timer only where it had one and is not
returning (04 R58, R61, R63). -/
theorem renewed_timers {b : Blocks} {l : Lane} (live : b.device ≠ .lockout)
    (state : b.laneState l = .candidate ∨ b.laneState l = .voting ∨
      (b.laneState l = .suspect ∧ b.device = .running ∧ (b.lanes.row l).returnPending = false))
    (grace : (b.lanes.row l).grace.isSome = true → b.laneState l = .suspect) :
    ((b.renew l).lanes.row l).lease = some b.config.lease ∧ ((b.renew l).lanes.row l).grace = none := by
  have stopped : b.laneState l ≠ .suspect → (b.lanes.row l).grace = none := fun other => by
    simpa using mt grace other
  rcases state with candidate | voting | ⟨suspect, running, returns⟩
  · rw [Blocks.renew_of_member live (.inl candidate)]
    simpa using stopped (by simp [candidate])
  · rw [Blocks.renew_of_member live (.inr voting)]
    simpa using stopped (by simp [voting])
  · rw [Blocks.renew_of_suspect_running running suspect]
    simp [returns]

/-- The blocks after a KEEPALIVE are those of its renewal (04 R58). -/
theorem exec_keepalive {s : State} {l : Lane} {q : Byte} (takes : Takes s l q []) :
    ∃ t, exec (.keepalive l q []) s = .next t ∧ t.toBlocks = s.toBlocks.renew l ∧ t.staging = s.staging ∧
      OutsideKept s t ∧
      Answered s t l 0x03#8 q (s.toBlocks.keepaliveOutcome l) [((s.toBlocks.renew l).laneState l).code] false := by
  obtain ⟨outside, blocks, staging, answered⟩ := receive_answered (k := 0x03#8) (handle := handleKeepalive l []) takes rfl
  exact ⟨_, rfl, blocks, staging, outside, answered⟩

/-- Settles O3: an expiry looks at its timer first; a KEEPALIVE and a change of drive leave timers that are not due. -/
theorem expiryTakesPlaceOnlyWhenDue : Obligations.ExpiryTakesPlaceOnlyWhenDue := by
  refine ⟨fun s n e => exec_expiry_notDue, fun s l stopped => congrArg _ (s.completeNow_stopped l stopped),
    fun s t l q e takes live state lease grace done => ?keepalive, fun i s t c images done changed =>
      exec_expiry_notDue (n := .settle c) (e := none) (by simp) (settle_notDue images done changed)⟩
  case keepalive =>
    obtain ⟨t', done', blocks, -⟩ := exec_keepalive takes
    obtain rfl : t' = t := by
      rw [done] at done'
      cases done'
      rfl
    obtain ⟨fullLease, noGrace⟩ := renewed_timers live state grace
    rw [← blocks] at fullLease noGrace
    have leaseRuns : t'.timer (.lease l) ≠ some 0 := by
      simp only [State.timer, fullLease]
      split_ifs <;> simp
      omega
    have graceStopped : t'.timer (.grace l) ≠ some 0 := by
      simp only [State.timer, noGrace]
      split_ifs <;> simp
    exact ⟨exec_expiry_notDue (n := .lease l) (e := e) (by simp) leaseRuns,
      exec_expiry_notDue (n := .grace l) (e := none) (by simp) graceStopped⟩

end Sys2Proof.Machine
end

section
/-! # One idle step (log 2) -/

namespace Sys2Proof.Machine

/-- The expiry command of a due timer does what the idle step that takes it does. -/
theorem exec_expiry_due {s : State} {n : TimerName} (due : s.timer n = some 0) (e : Option Evaluation) :
    exec (expiryCommand e n) s = .next (s.expireNow n e) := by
  rw [s.expireNow_due n e due]
  cases n with
  | sealing l => exact congrArg _ (s.completeNow_running l 0 due)
  | _ => exact congrArg _ (s.expireNow_due _ _ due)

theorem idle_inReset {s : State} (held : s.inReset = true) : s.idle = { s with clock := s.clock + 1 } := by
  simp [State.idle, held]

/-- One of the due timers expires. -/
theorem idle_due {s : State} {n : TimerName} (due : s.timer n = some 0) : ∃ m e, s.timer m = some 0 ∧
    s.idle = { s.expireNow m e with clock := s.clock + 1 } := by
  have running : s.inReset = false := State.inReset_of_timer due
  cases taken : s.nextDue with
  | none => exact absurd due ((s.nextDue_none_iff).mp taken n)
  | some m =>
    exact ⟨m, Config.secondEvaluation s.clock m.number, s.nextDue_due m taken, by simp [State.idle, running, taken]⟩

theorem idle_later {s : State} (running : s.inReset = false) (notDue : ∀ n, s.timer n ≠ some 0) :
    s.idle = { s.timersLater with clock := s.clock + 1 } := by
  simp [State.idle, running, (s.nextDue_none_iff).mpr notDue]

theorem membershipTimersRun_iff (s : State) : s.membershipTimersRun = true ↔ MembershipTimersRun s := by
  unfold Blocks.membershipTimersRun MembershipTimersRun
  cases s.device <;> simp

/-- The lane records 1 ms later. -/
theorem row_timersLater (s : State) (l : Lane) : s.timersLater.lanes.row l = if MembershipTimersRun s
    then { s.lanes.row l with lease := Timer.later (s.lanes.row l).lease, grace := Timer.later (s.lanes.row l).grace }
    else s.lanes.row l := by
  simp only [← membershipTimersRun_iff]
  have lanes : s.timersLater.lanes = if s.membershipTimersRun then s.lanes.mapRows fun r =>
    { r with lease := Timer.later r.lease, grace := Timer.later r.grace } else s.lanes := rfl
  rw [lanes]
  split
  · exact Table.row_mapRows ..
  · rfl

/-- In different slots the ballot of a slot is the one listed with it. -/
theorem ballotIn_of_mem {b : Blocks} (law : TableLawful b) {x : Ballot} (listed : x ∈ b.ballots) :
    b.ballotIn x.slot = some x := by
  cases found : b.ballotIn x.slot with
  | none =>
    have other := List.find?_eq_none.mp found x listed
    simp at other
  | some y =>
    have same : y.slot = x.slot := by simpa using List.find?_some found
    exact congrArg some (eq_of_nodup_map law.slots (List.mem_of_find?_eq_some found) listed same)

/-- The timers out of reset, each under its name. -/
theorem timers_of_running {s : State} (running : s.inReset = false) :
    s.timer .deadline = s.vote.deadline ∧
    (∀ l, (MembershipTimersRun s →
        s.timer (.lease l) = (s.lanes.row l).lease ∧ s.timer (.grace l) = (s.lanes.row l).grace) ∧
      (¬ MembershipTimersRun s → s.timer (.lease l) = none ∧ s.timer (.grace l) = none) ∧
      s.timer (.sealing l) = (s.staging.row l).sealTimer) ∧
    (BallotLaw s → ∀ x ∈ s.ballots, s.timer (.lifetime x.slot) = some x.lifetime) ∧
    (∀ i, (∀ x ∈ s.ballots, x.slot ≠ i) → s.timer (.lifetime i) = none) ∧
    ∀ c, s.timer (.settle c) = (s.channelOutput c).settle ∧ s.timer (.mismatch c) = (s.channelOutput c).mismatch := by
  simp only [← membershipTimersRun_iff]
  refine ⟨by simp [State.timer, running], fun l => ⟨fun run => ?_, fun stop => ?_, by simp [State.timer, running]⟩,
    fun law x listed => ?_, fun i free => ?_, fun c => by simp [State.timer, running]⟩
  · simp [State.timer, running, run]
  · simp [State.timer, running, stop]
  · simp [State.timer, running, ballotIn_of_mem ((ballotLaw_iff s).mp law) listed]
  · have none : s.ballotIn i = none := List.find?_eq_none.mpr fun x listed => by simpa using free x listed
    simp [State.timer, running, none]

/-- Settles O2: the idle step in reset, with a timer due, and with none. -/
theorem idleStepPassesOneMs : Obligations.IdleStepPassesOneMs := by
  intro s empty
  refine ⟨⟨s.idle, by simp [step, empty], ?_⟩, fun held n => State.timer_inReset held n, timers_of_running⟩
  obtain ⟨u, idle, event⟩ := idle_stateEvent s
  obtain ⟨power, -, pending⟩ := event.outsideKept
  refine ⟨by rw [idle]; exact pending.trans empty, by rw [idle]; exact power, by rw [idle], idle_inReset, ?due,
    fun running notDue => ?later⟩
  case due =>
    rintro ⟨n, due⟩
    obtain ⟨m, e, dueToo, taken⟩ := idle_due due
    exact ⟨m, e, _, dueToo, exec_expiry_due dueToo e, taken⟩
  case later =>
    rw [idle_later running notDue]
    exact ⟨rfl, row_timersLater s, fun l => Table.row_mapRows .., fun c => Table.row_mapRows ..⟩

end Sys2Proof.Machine
end

section
/-! # Request commands and the port checks (10 R165 to R167, R173) -/

namespace Sys2Proof.Machine

/-- A request command other than LINK_RESET is a frame at the port of its lane, taken to some owner. -/
theorem exec_receive {i : Instr} {l : Lane} {f : RequestFrame} (sent : sender i = some l) (frame : i.frame? = some f)
    (reset : ∀ l q p, i ≠ .linkReset l q p) (s : State) :
    ∃ handle, exec i s = .next (s.receive l f.kind f.seq f.payload handle) := by
  cases i <;> cases sent <;> cases frame
  case linkReset q p => exact absurd rfl (reset l q p)
  all_goals exact ⟨_, rfl⟩

/-- Only the unknown kind of an ill-formed command has the code of LINK_RESET without being one. -/
theorem not_linkReset_of_kind {i : Instr} {f : RequestFrame} (frame : i.frame? = some f) (kind : f.kind ≠ 0x0F#8)
    (l : Lane) (q : Byte) (p : List Byte) : i ≠ .linkReset l q p := by
  rintro rfl
  cases frame
  exact kind rfl

/-- Settles O20: a frame that fails check 3 or 4 is refused with the outcome of the check. -/
theorem refusedFrameSetsOnlyPortOutcome : Obligations.RefusedFrameSetsOnlyPortOutcome := by
  intro i l f s sent frame wellFormed kind running
  obtain ⟨handle, done⟩ := exec_receive sent frame (not_linkReset_of_kind frame kind) s
  have fits := Laws.FrameForm.payload_le wellFormed frame
  have refused {o : PortOutcome} (check : (s.ports.row l).check f.seq = o) (not_taken : o ≠ .taken) :
      exec i s = .next (s.setPort l { s.ports.row l with outcome := o, outcomeSeq := some f.seq }) := by
    rw [done, s.receive_refused l _ _ _ _ running fits (check.trans_ne not_taken), check]
    rfl
  refine ⟨fun other before => refused ?_ (by simp), fun other apart => refused ?_ (by simp),
    fun expected full => refused ?_ (by simp)⟩
  · rw [Port.check, if_neg other, if_pos before]
  · rw [Port.check, if_neg other, if_neg apart]
  · simp [Port.check, expected, responseDepth, Nat.not_lt.mpr full]

/-- Settles O22: LINK_RESET leaves the port with its own response alone, and no transaction that could deliver another. -/
theorem linkResetEmptiesThePort : Obligations.LinkResetEmptiesThePort := by
  intro s l q p running fits
  have taken : s.receiveLinkReset l 0x0F#8 q p = s.takeLinkReset l 0x0F#8 q := by
    rw [State.receiveLinkReset, if_neg (by simp [running]), if_neg (Nat.not_lt.mpr fits)]
  have queue : ((s.takeLinkReset l 0x0F#8 q).ports.row l).queue
      = [.response (s.responseNow l 0x0F#8 q .accepted [] false)] := by simp [State.takeLinkReset]
  have attn : ((s.takeLinkReset l 0x0F#8 q).ports.row l).attn = (s.takeLinkReset l 0x0F#8 q).attnCondition l :=
    State.updateAttn_attn _ l
  have stillRunning : (s.takeLinkReset l 0x0F#8 q).inReset = false := running
  refine ⟨s.takeLinkReset l 0x0F#8 q, congrArg _ taken, ⟨rfl, rfl, rfl, rfl, rfl⟩, fun m other => ?_,
    by simp [State.takeLinkReset], by simp [State.takeLinkReset], by simp [State.takeLinkReset], ?_, queue, ?_⟩
  · simp [State.takeLinkReset, Table.row_put_of_ne _ other.symm]
  · rw [attn]
    simp [State.attnCondition, stillRunning, queue]
  · intro frame
    simp only [State.takeLinkReset, State.updateAttn_ports, Table.row_build, State.setPort_ports, Table.row_put_self]
    cases (s.ports.row l).transaction <;> simp [Transaction.withdrawn]

end Sys2Proof.Machine
end

section
/-! # Malformed payloads (10 R172, 11 R181) -/

namespace Sys2Proof.Machine

theorem parseEmpty_malformed {p : List Byte} (h : p ≠ []) : parseEmpty p = none := by
  cases p with
  | nil => exact absurd rfl h
  | cons b rest => rfl

theorem parseJoin_malformed {p : List Byte} (h : p.length ≠ 4) : parseJoin p = none := by
  unfold parseJoin
  split
  · exact absurd rfl h
  · rfl

theorem parsePropose_malformed {p : List Byte} (h : p.length < 3 ∨ (p.getD 2 0).toNat = 0 ∨ 64 < (p.getD 2 0).toNat ∨
    p.length ≠ 3 + 3 * (p.getD 2 0).toNat) : parsePropose p = none := by
  unfold parsePropose
  split
  · rename_i hi lo n rest
    refine if_neg fun ⟨least, most, length⟩ => ?_
    simp only [List.length_cons, List.getD_cons_succ, List.getD_cons_zero] at h
    omega
  · rfl

/-- An entry whose action code names neither SET nor CLEAR spoils the whole list. -/
theorem vetoEntries_malformed {p : List Byte} {i : Nat} (inside : 2 * i + 1 < p.length)
    (set : p.getD (2 * i + 1) 0 ≠ 0x01#8) (clear : p.getD (2 * i + 1) 0 ≠ 0x02#8) : vetoEntries p = none := by
  induction i generalizing p with
  | zero =>
    match p with
    | [] => simp at inside
    | [_] => simp at inside
    | c :: a :: rest =>
      have code : vetoAction? a = none := by
        rw [vetoAction?, if_neg (by simpa using set), if_neg (by simpa using clear)]
      simp [vetoEntries, code]
  | succ i ih =>
    match p with
    | [] => simp at inside
    | [_] => simp at inside
    | c :: a :: rest =>
      have shift : 2 * (i + 1) + 1 = 2 * i + 1 + 1 + 1 := by omega
      rw [shift, List.getD_cons_succ, List.getD_cons_succ] at set clear
      have rest_bad := ih (p := rest) (by simp only [List.length_cons] at inside; omega) set clear
      simp [vetoEntries, rest_bad]

theorem parseVeto_malformed {p : List Byte} (h : p.length < 1 ∨ (p.getD 0 0).toNat = 0 ∨ 64 < (p.getD 0 0).toNat ∨
    p.length ≠ 1 + 2 * (p.getD 0 0).toNat ∨ ∃ i, i < (p.getD 0 0).toNat ∧ p.getD (2 + 2 * i) 0 ≠ 0x01#8 ∧
      p.getD (2 + 2 * i) 0 ≠ 0x02#8) : parseVeto p = none := by
  unfold parseVeto
  split
  · rename_i n rest
    split
    · rename_i formed
      obtain ⟨least, most, length⟩ := formed
      simp only [List.length_cons, List.getD_cons_zero] at h
      obtain ⟨i, below, set, clear⟩ : ∃ i, i < n.toNat ∧ (n :: rest).getD (2 + 2 * i) 0 ≠ 0x01#8 ∧
          (n :: rest).getD (2 + 2 * i) 0 ≠ 0x02#8 := by
        rcases h with h | h | h | h | h
        iterate 4 omega
        exact h
      rw [show 2 + 2 * i = 2 * i + 1 + 1 by omega, List.getD_cons_succ] at set clear
      exact vetoEntries_malformed (by omega) set clear
    · rfl
  · rfl

theorem channelOf?_of_le {n : Nat} (h : n ≤ 63) : (channelOf? n).isSome = true := by
  simp [channelOf?, show n < 64 by omega]

theorem parseSupport_malformed {p : List Byte} (h : ¬ ((p.length = 5 ∧ p.getD 0 0 = 0x01#8) ∨
    (p.length = 2 ∧ p.getD 0 0 = 0x02#8 ∧ (p.getD 1 0).toNat ≤ 63) ∨
    (p.length = 2 ∧ p.getD 0 0 = 0x03#8 ∧ (p.getD 1 0).toNat ≤ 3) ∨
    (1 ≤ p.length ∧ p.length ≤ 5 ∧ p.getD 0 0 = 0x04#8))) : parseSupport p = none := by
  unfold parseSupport
  split
  · rename_i code arg
    simp only [List.length_cons, List.getD_cons_zero, List.getD_cons_succ, not_or] at h
    obtain ⟨commit, clear, readmit, resume⟩ := h
    split
    · rename_i names
      split
      · exact absurd ⟨rfl, names⟩ commit
      · rfl
    split
    · rename_i names
      split
      · rename_i c
        have large : ¬ c.toNat ≤ 63 := fun small => clear ⟨rfl, names, small⟩
        simp [channelOf?, show ¬ c.toNat < 64 by omega]
      · rfl
    split
    · rename_i names
      split
      · rename_i m
        have large : ¬ m.toNat ≤ 3 := fun small => readmit ⟨rfl, names, small⟩
        simp [laneOf?, show ¬ m.toNat < 4 by omega]
      · rfl
    split
    · rename_i names
      exact if_neg fun short => resume ⟨by omega, by omega, names⟩
    · rfl
  · rfl

theorem parseStageWrite_malformed {p : List Byte} (h : p.length < 3 ∨ 194 < p.length) : parseStageWrite p = none := by
  unfold parseStageWrite
  split
  · refine if_neg fun ⟨least, most⟩ => ?_
    simp only [List.length_cons] at h
    omega
  · rfl

theorem parseReadStaging_malformed {l : Lane} {p : List Byte} (h : ¬ ((p.length = 1 ∧ (p.getD 0 0).toNat ≤ 3) ∨
    (p.length = 4 ∧ (p.getD 0 0).toNat = l.val ∧ 1 ≤ (p.getD 3 0).toNat ∧ (p.getD 3 0).toNat ≤ 192))) :
    parseReadStaging l p = none := by
  rw [not_or] at h
  obtain ⟨short, long⟩ := h
  unfold parseReadStaging
  split
  · rename_i m
    have large : ¬ m.toNat ≤ 3 := fun small => short ⟨rfl, small⟩
    simp [laneOf?, show ¬ m.toNat < 4 by omega]
  · exact if_neg fun ⟨own, least, most⟩ => long ⟨rfl, own, least, most⟩
  · rfl

theorem parseFetch_malformed {p : List Byte} (h : p.length ≠ 1 ∨ (p.getD 0 0).toNat = 0 ∨ 6 < (p.getD 0 0).toNat) :
    parseFetch p = none := by
  unfold parseFetch
  split
  · refine if_neg fun ⟨least, most⟩ => ?_
    simp only [List.length_cons, List.length_nil, List.getD_cons_zero] at h
    omega
  · rfl

theorem parseReadChannels_malformed {p : List Byte} (h : p.length ≠ 2 ∨ 63 < (p.getD 0 0).toNat ∨
    (p.getD 1 0).toNat = 0 ∨ 32 < (p.getD 1 0).toNat) : parseReadChannels p = none := by
  unfold parseReadChannels
  split
  · refine if_neg fun ⟨first, least, most⟩ => ?_
    simp only [List.length_cons, List.length_nil, List.getD_cons_zero, List.getD_cons_succ] at h
    omega
  · rfl

/-- A request that its owner answers BAD_REQUEST. -/
theorem receive_badRequest {s : State} {l : Lane} {k q : Byte} {p : List Byte} {handle : Handler} {b : Blocks}
    (takes : Takes s l q p) (served : handle s.toBlocks s.staging = badRequest b s.staging) :
    Answered s (s.receive l k q p handle) l k q .badRequest [] false ∧
      (s.receive l k q p handle).staging = s.staging ∧ (s.receive l k q p handle).toBlocks = b ∧
      OutsideKept s (s.receive l k q p handle) := by
  obtain ⟨outside, blocks, staging, answered⟩ := receive_answered (k := k) takes served
  exact ⟨answered, staging, blocks, outside⟩

/-- Settles O21: the owner of each kind answers BAD_REQUEST when its form check finds the payload malformed. -/
theorem malformedRequestIsBadRequest : Obligations.MalformedRequestIsBadRequest := by
  intro i l f s sent frame takes malformed
  cases i <;> cases sent <;> cases frame
  case join q p =>
    exact ⟨_, rfl, receive_badRequest takes (by simp only [handleJoin, parseJoin_malformed malformed]; rfl)⟩
  case leave q p e =>
    exact ⟨_, rfl, receive_badRequest takes (by simp only [handleLeave, parseEmpty_malformed malformed]; rfl)⟩
  case keepalive q p =>
    exact ⟨_, rfl, receive_badRequest takes (by simp only [handleKeepalive, parseEmpty_malformed malformed]; rfl)⟩
  case propose q p e =>
    exact ⟨_, rfl, receive_badRequest takes (by simp only [handlePropose, parsePropose_malformed malformed]; rfl)⟩
  case veto q p =>
    exact ⟨_, rfl, receive_badRequest takes (by simp only [handleVeto, parseVeto_malformed malformed]; rfl)⟩
  case support q p =>
    exact ⟨_, rfl, receive_badRequest takes (by simp only [handleSupport, parseSupport_malformed malformed]; rfl)⟩
  case stageWrite q p =>
    exact ⟨_, rfl, receive_badRequest takes (by simp only [handleStageWrite, parseStageWrite_malformed malformed]; rfl)⟩
  case stageSeal q p =>
    exact ⟨_, rfl, receive_badRequest takes (by simp only [handleStageSeal, parseEmpty_malformed malformed]; rfl)⟩
  case stageOpen q p =>
    exact ⟨_, rfl, receive_badRequest takes (by simp only [handleStageOpen, parseEmpty_malformed malformed]; rfl)⟩
  case readStaging q p =>
    exact ⟨_, rfl, receive_badRequest takes (by simp only [handleReadStaging, parseReadStaging_malformed malformed]; rfl)⟩
  case fetchNotices q p =>
    exact ⟨_, rfl, receive_badRequest takes (by simp only [handleFetchNotices, parseFetch_malformed malformed]; rfl)⟩
  case readStatus q p =>
    exact ⟨_, rfl, receive_badRequest takes (by simp only [handleReadStatus, parseEmpty_malformed malformed]; rfl)⟩
  case readChannels q p =>
    exact ⟨_, rfl, receive_badRequest takes (by simp only [handleReadChannels, parseReadChannels_malformed malformed]; rfl)⟩
  case readBallots q p =>
    exact ⟨_, rfl, receive_badRequest takes (by simp only [handleReadBallots, parseEmpty_malformed malformed]; rfl)⟩
  case linkReset q p => cases malformed
  case unknownRequestKind k q p => exact ⟨_, rfl, receive_badRequest takes rfl⟩

end Sys2Proof.Machine
end

section
/-! # Transactions of the links (10 R161 to R165, 11 R179, R180) -/

namespace Sys2Proof.Machine

/-! ## The frame at the assertion -/

/-- The five flags stand at bits 0 to 4 of a frame header. -/
theorem getLsbD_headerFlags (queued notices gap failn present : Bool) :
    (headerFlags queued notices gap failn present).getLsbD 0 = queued ∧
    (headerFlags queued notices gap failn present).getLsbD 1 = notices ∧
    (headerFlags queued notices gap failn present).getLsbD 2 = gap ∧
    (headerFlags queued notices gap failn present).getLsbD 3 = failn ∧
    (headerFlags queued notices gap failn present).getLsbD 4 = present ∧
    (headerFlags queued notices gap failn present).getLsbD 5 = false ∧
    (headerFlags queued notices gap failn present).getLsbD 6 = false ∧
    (headerFlags queued notices gap failn present).getLsbD 7 = false := by
  revert queued notices gap failn present
  decide

theorem State.chosenFrame_of_response {s : State} {l : Lane} {r : Response} {rest : List ResponseSlot}
    (front : (s.ports.row l).queue = .response r :: rest) :
    s.chosenFrame l = .shifting
      (responseFrame r (s.ports.row l).outcome (s.ports.row l).outcomeSeq (decide (rest ≠ []))) true := by
  have queued : (!rest.isEmpty) = decide (rest ≠ []) := by cases rest <;> rfl
  rw [chosenFrame, front, ← queued]

theorem State.chosenFrame_of_no_response {s : State} {l : Lane}
    (none : ∀ r rest, (s.ports.row l).queue ≠ .response r :: rest) :
    s.chosenFrame l = .shifting (noneFrame (s.ports.row l).outcome (s.ports.row l).outcomeSeq
      (decide ((s.ports.row l).queue ≠ [])) (decide (0 < s.notices.unread l)) s.failn) false := by
  unfold chosenFrame
  dsimp only
  split
  · rename_i r rest front
    exact absurd front (none r rest)
  · rename_i front
    simp [front]
  · rename_i front
    simp [front]

/-- Settles O23: the frame is that of the response in front, or a NONE frame. -/
theorem chipSelectChoosesTheFrame : Obligations.ChipSelectChoosesTheFrame := by
  intro s l running idle p frame flagged
  have begun : exec (.chipSelectAssert l) s = .next (s.setPort l { p with transaction := s.chosenFrame l }) := by
    change Host.Outcome.next (s.beginTransaction l) = _
    rw [State.beginTransaction, idle]
    simp only [running, Bool.false_eq_true, if_false]
    rfl
  by_cases response : ∃ r rest, p.queue = .response r :: rest
  · obtain ⟨r, rest, front⟩ := response
    refine ⟨_, s.chosenFrame l, headerFlags (decide (rest ≠ [])) r.notices r.gap r.failn p.outcomeSeq.isSome, begun, rfl,
      fun r' rest' front' => ?_, fun none => absurd front (none r rest)⟩
    obtain ⟨rfl, rfl⟩ : r = r' ∧ rest = rest' := by simpa [front] using front'
    exact ⟨State.chosenFrame_of_response front, getLsbD_headerFlags ..⟩
  · have none : ∀ r rest, p.queue ≠ .response r :: rest := fun r rest front => response ⟨r, rest, front⟩
    exact ⟨_, s.chosenFrame l,
      headerFlags (decide (p.queue ≠ [])) (decide (0 < s.notices.unread l)) false s.failn p.outcomeSeq.isSome, begun, rfl,
      fun r rest front => absurd front (none r rest),
      fun _ => ⟨State.chosenFrame_of_no_response none, getLsbD_headerFlags ..⟩⟩

/-! ## The checks of a release -/

/-- The length that bytes 2 and 3 of a run of bytes name. -/
def lengthField (bytes : List Byte) : Nat := (bytes.getD 2 0).toNat * 256 + (bytes.getD 3 0).toNat

/-- Check 1 of 10 R165 fails. -/
def BadLength (bytes : List Byte) : Prop :=
  bytes.length < 6 ∨ 256 < lengthField bytes ∨ bytes.length < 6 + lengthField bytes ∨
    ∃ i, 6 + lengthField bytes ≤ i ∧ i < bytes.length ∧ bytes.getD i 0 ≠ 0#8

/-- Check 2 of 10 R165 fails. -/
def BadCrc (bytes : List Byte) : Prop :=
  crc16Bytes (bytes.take (4 + lengthField bytes)) ≠ (bytes.drop (4 + lengthField bytes)).take 2

/-- Some byte from a place on is not 00h. -/
theorem any_drop_ne_zero_iff (bytes : List Byte) (n : Nat) :
    (bytes.drop n).any (fun b => b != 0#8) = true ↔ ∃ i, n ≤ i ∧ i < bytes.length ∧ bytes.getD i 0 ≠ 0#8 := by
  simp only [List.any_eq_true, List.mem_drop_iff_getElem, bne_iff_ne, ne_eq]
  constructor
  · rintro ⟨b, ⟨i, below, rfl⟩, nonzero⟩
    refine ⟨n + i, by omega, by omega, ?_⟩
    rwa [List.getD_eq_getElem _ _ (by omega)]
  · rintro ⟨i, least, below, nonzero⟩
    rw [List.getD_eq_getElem _ _ below] at nonzero
    refine ⟨bytes[i], ⟨i - n, by omega, ?_⟩, nonzero⟩
    simp only [show n + (i - n) = i by omega]

theorem checkFrame_lengthError_iff (kind seq hi lo : Byte) (rest : List Byte) :
    (256 < read16 hi lo ∨ rest.length < read16 hi lo + 2 ∨
        (rest.drop (read16 hi lo + 2)).any (fun b => b != 0#8) = true) ↔
      BadLength (kind :: seq :: hi :: lo :: rest) := by
  have field : lengthField (kind :: seq :: hi :: lo :: rest) = read16 hi lo := rfl
  have tail := any_drop_ne_zero_iff (kind :: seq :: hi :: lo :: rest) (6 + read16 hi lo)
  rw [show 6 + read16 hi lo = read16 hi lo + 2 + 4 by omega] at tail
  simp only [List.drop_succ_cons] at tail
  rw [tail, BadLength, field, show 6 + read16 hi lo = read16 hi lo + 2 + 4 by omega]
  simp only [List.length_cons]
  constructor
  · rintro (long | short | fill)
    · exact .inr (.inl long)
    · exact .inr (.inr (.inl (by omega)))
    · exact .inr (.inr (.inr fill))
  · rintro (short | long | short | fill)
    · exact .inr (.inl (by omega))
    · exact .inl long
    · exact .inr (.inl (by omega))
    · exact .inr (.inr fill)

theorem checkFrame_of_badLength {bytes : List Byte} (bad : BadLength bytes) : checkFrame bytes = .lengthError := by
  unfold checkFrame
  split
  · rename_i kind seq hi lo rest
    exact if_pos ((checkFrame_lengthError_iff kind seq hi lo rest).mpr bad)
  · rfl

theorem checkFrame_of_badCrc {bytes : List Byte} (good : ¬ BadLength bytes) (bad : BadCrc bytes) :
    checkFrame bytes = .crcError := by
  unfold checkFrame
  split
  · rename_i kind seq hi lo rest
    have take : (kind :: seq :: hi :: lo :: rest).take (4 + read16 hi lo)
        = [kind, seq, hi, lo] ++ rest.take (read16 hi lo) := by
      rw [Nat.add_comm, List.take_succ_cons, List.take_succ_cons, List.take_succ_cons, List.take_succ_cons,
        List.cons_append, List.cons_append, List.cons_append, List.cons_append, List.nil_append]
    have drop : (kind :: seq :: hi :: lo :: rest).drop (4 + read16 hi lo) = rest.drop (read16 hi lo) := by
      rw [Nat.add_comm, List.drop_succ_cons, List.drop_succ_cons, List.drop_succ_cons, List.drop_succ_cons]
    have crc : crc16Bytes ([kind, seq, hi, lo] ++ rest.take (read16 hi lo)) ≠ (rest.drop (read16 hi lo)).take 2 := by
      rw [← take, ← drop]
      exact bad
    rw [if_neg (mt (checkFrame_lengthError_iff kind seq hi lo rest).mp good)]
    dsimp only
    rw [if_neg crc.symm]
  · rename_i short
    have fewer : bytes.length < 6 := by
      clear bad good
      rcases bytes with _ | ⟨kind, _ | ⟨seq, _ | ⟨hi, _ | ⟨lo, rest⟩⟩⟩⟩
      iterate 4 simp
      exact absurd rfl (short kind seq hi lo rest)
    exact absurd (.inl fewer) good

theorem read16_bytes16 {n : Nat} (h : n ≤ 256) : read16 (byte (n / 256)) (byte n) = n := by
  simp only [read16, byte, BitVec.toNat_ofNat]
  omega

/-- Settles O25: the length field names the payload, and the CRC-16 carried is the one computed. -/
theorem requestFrameReadsBack : Obligations.RequestFrameReadsBack := by
  intro kind seq payload fill fits
  have frame : requestFrame kind seq payload ++ List.replicate fill 0#8
      = kind :: seq :: byte (payload.length / 256) :: byte payload.length ::
        (payload ++ (crc16Bytes ([kind, seq, byte (payload.length / 256), byte payload.length] ++ payload)
          ++ List.replicate fill 0#8)) := by
    simp [requestFrame, bytes16]
  have crcLength (bs : List Byte) : (crc16Bytes bs).length = 2 := rfl
  rw [frame, checkFrame, read16_bytes16 fits]
  simp only []
  rw [if_neg, List.take_left, List.drop_left, List.take_left' (crcLength _), if_pos rfl]
  rw [← List.drop_drop, List.drop_left, List.drop_left' (crcLength _)]
  simp only [List.length_append, crcLength, List.any_eq_true, List.mem_replicate, bne_iff_ne, ne_eq, not_or,
    not_exists, not_and, not_not, and_imp]
  exact ⟨by omega, by omega, fun b _ zero => zero⟩

/-! ## The release -/

namespace State

/-- The port after the delivery of a transaction is settled. -/
theorem row_settleDelivery (s : State) (l : Lane) (delivered : Bool) :
    ∃ attn, (s.settleDelivery l delivered).ports.row l
      = { s.ports.row l with
          queue := if delivered then (s.ports.row l).queue.tail else (s.ports.row l).queue
          transaction := .none
          attn := attn } := by
  simp [settleDelivery]

theorem settleDelivery_other (s : State) (l : Lane) (delivered : Bool) :
    OtherPortsKept s (s.settleDelivery l delivered) l := by
  intro m other
  simp [settleDelivery, Table.row_put_of_ne _ other.symm]

theorem endTransaction_of_running {s : State} {l : Lane} {frame : List Byte} {isResponse : Bool}
    (running : s.inReset = false) (shifting : (s.ports.row l).transaction = .shifting frame isResponse)
    (bytes : List Byte) (e : Option Evaluation) :
    s.endTransaction l bytes e
      = (s.settleDelivery l (isResponse && decide (frame.length ≤ bytes.length))).judgeBytes l bytes e := by
  rw [endTransaction, shifting]
  simp only [running, Bool.false_eq_true, if_false]
  rfl

end State

theorem noRequest_iff (bytes : List Byte) : noRequest bytes = true ↔ ∀ b ∈ bytes, b = 0#8 := by
  simp [noRequest]

theorem noRequest_of_ne_zero {bytes : List Byte} (h : ∃ b ∈ bytes, b ≠ 0#8) : noRequest bytes = false := by
  obtain ⟨b, mem, nonzero⟩ := h
  exact Bool.eq_false_iff.mpr fun none => nonzero ((noRequest_iff bytes).mp none b mem)

/-- The port after a release that brings no request: the delivery settled, the outcome of the bytes recorded. -/
theorem settled_setOutcome (s : State) (l : Lane) (delivered : Bool) (o : PortOutcome) (q : Option Byte) :
    let t := (s.settleDelivery l delivered).setOutcome l o q
    OnlyPorts s t ∧ OtherPortsKept s t l ∧ (t.ports.row l).transaction = .none ∧
      (t.ports.row l).expected = (s.ports.row l).expected ∧ (t.ports.row l).outcome = o ∧
      (t.ports.row l).outcomeSeq = q ∧
      (t.ports.row l).queue = (if delivered = true then (s.ports.row l).queue.tail else (s.ports.row l).queue) := by
  obtain ⟨attn, row⟩ := s.row_settleDelivery l delivered
  refine ⟨⟨rfl, rfl, rfl, rfl, rfl⟩, fun m other => ?_, ?_, ?_, ?_, ?_, ?_⟩
  · rw [State.setOutcome_ports, Table.row_put_of_ne _ other.symm]
    exact s.settleDelivery_other l delivered m other
  all_goals simp only [State.setOutcome_ports, Table.row_put_self, row]

/-- Recording the outcome that stands changes nothing. -/
theorem setOutcome_self (s : State) (l : Lane) :
    s.setOutcome l (s.ports.row l).outcome (s.ports.row l).outcomeSeq = s := by
  have same : s.ports.put l (s.ports.row l) = s.ports := Table.put_row ..
  change { s with ports := s.ports.put l (s.ports.row l) } = s
  rw [same]

/-- Settles O24: the delivery is settled, then the bytes are judged by checks 1 and 2. -/
theorem releaseWithoutRequestSettlesDelivery : Obligations.ReleaseWithoutRequestSettlesDelivery := by
  intro s l frame bytes isResponse e running shifting len badLength badCrc ends
  have released : exec (.chipSelectRelease l bytes e) s
      = .next ((s.settleDelivery l (isResponse && decide (frame.length ≤ bytes.length))).judgeBytes l bytes e) :=
    congrArg _ (State.endTransaction_of_running running shifting bytes e)
  have ends_of {o : PortOutcome} {q : Option Byte}
      (judged : (s.settleDelivery l (isResponse && decide (frame.length ≤ bytes.length))).judgeBytes l bytes e
        = (s.settleDelivery l (isResponse && decide (frame.length ≤ bytes.length))).setOutcome l o q) : ends o q := by
    have effect := settled_setOutcome s l (isResponse && decide (frame.length ≤ bytes.length)) o q
    simp only [Bool.and_eq_true, decide_eq_true_eq] at effect
    obtain ⟨blocks, others, transaction, expected, outcome, seq, queue⟩ := effect
    exact ⟨_, released.trans (congrArg _ judged), blocks, others, transaction, expected, outcome, seq, queue⟩
  refine ⟨fun zero => ends_of ?_, fun some bad => ends_of ?_, fun some good bad => ends_of ?_⟩
  · obtain ⟨attn, row⟩ := s.row_settleDelivery l (isResponse && decide (frame.length ≤ bytes.length))
    have self := setOutcome_self (s.settleDelivery l (isResponse && decide (frame.length ≤ bytes.length))) l
    rw [State.judgeBytes, if_pos ((noRequest_iff bytes).mpr zero)]
    rw [row] at self
    exact self.symm
  · rw [State.judgeBytes, if_neg (by simp [noRequest_of_ne_zero some]), checkFrame_of_badLength bad]
    rfl
  · rw [State.judgeBytes, if_neg (by simp [noRequest_of_ne_zero some]), checkFrame_of_badCrc good bad]
    rfl

/-! ## A request shifted in -/

/-- A request frame is never a run of fill bytes: with no kind, sequence number or payload its CRC-16 is not 0. -/
theorem noRequest_requestFrame {kind seq : Byte} {payload : List Byte} (fits : payload.length ≤ 256) (fill : Nat) :
    noRequest (requestFrame kind seq payload ++ List.replicate fill 0#8) = false := by
  refine Bool.eq_false_iff.mpr fun zero => ?_
  rw [noRequest_iff] at zero
  have kind_zero : kind = 0#8 := zero kind (by simp [requestFrame])
  have seq_zero : seq = 0#8 := zero seq (by simp [requestFrame])
  have hi_zero : byte (payload.length / 256) = 0#8 := zero _ (by simp [requestFrame, bytes16])
  have lo_zero : byte payload.length = 0#8 := zero _ (by simp [requestFrame, bytes16])
  have empty : payload.length = 0 := by rw [← read16_bytes16 fits, hi_zero, lo_zero]; rfl
  obtain rfl := List.eq_nil_of_length_eq_zero empty
  have crc_zero : (0x84#8 : Byte) = 0#8 := by
    refine zero _ (List.mem_append_left _ ?_)
    rw [kind_zero, seq_zero]
    decide +kernel
  exact absurd crc_zero (by decide)

theorem namesRequest_iff (kind : Byte) : namesRequest kind = true ↔ 1 ≤ kind.toNat ∧ kind.toNat ≤ 15 := by
  simp only [namesRequest, requestKinds, List.contains_iff_mem, List.mem_cons, List.not_mem_nil, or_false,
    ← BitVec.toNat_inj, BitVec.toNat_ofNat]
  omega

/-- A kind that names none of the requests has no owner. -/
theorem handlerOf_of_unnamed {kind : Byte} (unnamed : namesRequest kind = false) (l : Lane) (p : List Byte)
    (e : Option Evaluation) : handlerOf l kind p e = handleUnknown := by
  have outside : ¬ (1 ≤ kind.toNat ∧ kind.toNat ≤ 15) := by rw [← namesRequest_iff, unnamed]; decide
  unfold handlerOf
  split
  all_goals try omega
  rfl

/-- A well-formed request command takes its frame at the port of its lane. -/
theorem exec_takeFrame {i : Instr} {l : Lane} {f : RequestFrame} (sent : sender i = some l) (frame : i.frame? = some f)
    (wellFormed : i.wellFormed = true) (s : State) : exec i s = .next (s.takeFrame l f (secondEvaluator i)) := by
  cases i <;> cases sent <;> cases frame
  case unknownRequestKind k q p =>
    have unnamed : namesRequest k = false :=
      (Laws.FrameForm.unknownRequestKind l k q p wellFormed _ rfl).2
    have other : k ≠ 0x0F#8 := by
      rintro rfl
      exact absurd unnamed (by decide)
    rw [State.takeFrame, if_neg other, handlerOf_of_unnamed unnamed]
    rfl
  all_goals rfl

/-- Settles O26: the checks of the release read the frame back, and it is taken after the delivery. -/
theorem releaseTakesTheRequestShiftedIn : Obligations.ReleaseTakesTheRequestShiftedIn := by
  intro i l f s frame isResponse fill sent frame? wellFormed running shifting bytes
  have fits := Laws.FrameForm.payload_le wellFormed frame?
  have judged := State.endTransaction_of_running running shifting bytes (secondEvaluator i)
  rw [State.judgeBytes, noRequest_requestFrame fits fill, requestFrameReadsBack f.kind f.seq f.payload fill fits] at judged
  rw [exec_takeFrame sent frame? wellFormed]
  exact congrArg _ judged

end Sys2Proof.Machine
end

section
/-! # Evaluation of a round (02 R28 to R33) -/

namespace Sys2Proof.Machine

/-! ## The median -/

theorem insertSorted_eq (v : Nat) (values : List Nat) : insertSorted v values = values.orderedInsert (· ≤ ·) v := by
  induction values with
  | nil => rfl
  | cons w rest ih => rw [insertSorted, List.orderedInsert, ih]

theorem sortValues_eq (values : List Nat) : sortValues values = values.insertionSort (· ≤ ·) := by
  induction values with
  | nil => rfl
  | cons v rest ih => rw [sortValues, ih, insertSorted_eq, List.insertionSort_cons]

theorem perm_sortValues (values : List Nat) : (sortValues values).Perm values := by
  rw [sortValues_eq]
  exact List.perm_insertionSort (· ≤ ·) values

theorem pairwise_sortValues (values : List Nat) : (sortValues values).Pairwise (· ≤ ·) := by
  rw [sortValues_eq]
  exact List.pairwise_insertionSort (· ≤ ·) values

/-- Of an ascending list, at most `k` values lie below the one at place `k`, and more than `k` are not above it. -/
theorem countP_of_ascending {values : List Nat} (ascending : values.Pairwise (· ≤ ·)) {k : Nat}
    (below : k < values.length) :
    values.countP (fun v => decide (v < values[k])) ≤ k ∧ k < values.countP (fun v => decide (v ≤ values[k])) := by
  have ordered (i j : Nat) (hi : i < values.length) (hj : j < values.length) (le : i ≤ j) : values[i] ≤ values[j] := by
    rcases Nat.eq_or_lt_of_le le with rfl | lt
    · exact Nat.le_refl _
    · exact List.pairwise_iff_getElem.mp ascending i j hi hj lt
  constructor
  · have none : (values.drop k).countP (fun v => decide (v < values[k])) = 0 := by
      refine List.countP_eq_zero.mpr fun v mem => ?_
      obtain ⟨i, hi, rfl⟩ := List.mem_drop_iff_getElem.mp mem
      simpa using ordered k (k + i) below (by omega) (by omega)
    calc values.countP (fun v => decide (v < values[k]))
        = (values.take k ++ values.drop k).countP (fun v => decide (v < values[k])) := by rw [List.take_append_drop]
      _ = (values.take k).countP (fun v => decide (v < values[k])) := by rw [List.countP_append, none, Nat.add_zero]
      _ ≤ (values.take k).length := List.countP_le_length
      _ ≤ k := List.length_take_le k values
  · have all : (values.take (k + 1)).countP (fun v => decide (v ≤ values[k])) = (values.take (k + 1)).length := by
      refine List.countP_eq_length.mpr fun v mem => ?_
      obtain ⟨i, hi, rfl⟩ := List.mem_take_iff_getElem.mp mem
      simpa using ordered i k (by omega) below (by omega)
    calc k < (values.take (k + 1)).length := by rw [List.length_take]; omega
      _ = (values.take (k + 1)).countP (fun v => decide (v ≤ values[k])) := all.symm
      _ ≤ values.countP (fun v => decide (v ≤ values[k])) := (List.take_sublist _ _).countP_le

/-- The median of some values: at most half lie below it, and at least half are not above it (02 R30). -/
theorem exists_median {values : List Nat} (some_value : values ≠ []) :
    ∃ m, median values = some m ∧ values.countP (fun v => decide (v < m)) ≤ (values.length - 1) / 2 ∧
      (values.length - 1) / 2 < values.countP (fun v => decide (v ≤ m)) := by
  have same := perm_sortValues values
  have length := same.length_eq
  have positive := List.length_pos_iff.mpr some_value
  have below : (values.length - 1) / 2 < (sortValues values).length := by omega
  obtain ⟨low, high⟩ := countP_of_ascending (pairwise_sortValues values) below
  exact ⟨_, List.getElem?_eq_getElem below, same.countP_eq _ ▸ low, same.countP_eq _ ▸ high⟩

theorem distance_le_iff (v m tolerance : Nat) : distance v m ≤ tolerance ↔ v ≤ m + tolerance ∧ m ≤ v + tolerance := by
  unfold distance
  split <;> omega

theorem lt_distance_iff (v m tolerance : Nat) : tolerance < distance v m ↔ m + tolerance < v ∨ v + tolerance < m := by
  unfold distance
  split <;> omega

/-- Settles O40: the median is a value, found in the middle of the sorted ones, and the quorum is counted around it. -/
theorem levelJudgedByMedian : Obligations.LevelJudgedByMedian := by
  intro b c level values
  have judged : b.outcomeOf c = judgeLevel b.config.quorum (b.entry c).tolerance values := by
    simp only [Blocks.outcomeOf, level]
    rfl
  rw [judged]
  refine ⟨fun none => by rw [none]; rfl, fun some_value => ?_⟩
  obtain ⟨m, found, low, high⟩ := exists_median some_value
  refine ⟨m, median_mem found, low, high, ?_⟩
  simp only [judgeLevel, found, distance_le_iff]

/-! ## Present values -/

namespace Blocks

/-- A present value is one that a VOTING proposer proposed (02 R27, R28). -/
theorem mem_presentValues_iff (b : Blocks) (c : Channel) (l : Lane) (v : Nat) :
    (l, v) ∈ b.presentValues c ↔
      b.vote.proposers.has l = true ∧ b.laneState l = .voting ∧ (b.vote.proposals.row l).row c = some v := by
  simp only [presentValues, List.mem_filterMap, IndexSet.mem_members, has_inputLanes, Option.map_eq_some_iff,
    Prod.mk.injEq]
  constructor
  · rintro ⟨_, ⟨proposer, voting⟩, _, proposed, rfl, rfl⟩
    exact ⟨proposer, voting, proposed⟩
  · rintro ⟨proposer, voting, proposed⟩
    exact ⟨l, ⟨proposer, voting⟩, v, proposed, rfl, rfl⟩

theorem fst_presentValues (b : Blocks) (c : Channel) :
    ((b.presentValues c).map Prod.fst).Sublist b.inputLanes.members := by
  simp only [presentValues, List.map_filterMap]
  induction b.inputLanes.members with
  | nil => exact List.Sublist.refl _
  | cons l rest ih =>
    rw [List.filterMap_cons]
    cases (b.vote.proposals.row l).row c
    · exact ih.cons l
    · exact ih.cons_cons l

/-- Each lane has at most one present value. -/
theorem nodup_presentValues (b : Blocks) (c : Channel) : ((b.presentValues c).map Prod.fst).Nodup :=
  (IndexSet.members_nodup _).sublist (b.fst_presentValues c)

/-- There are no more present values than lanes of a set that contains every VOTING proposer. -/
theorem length_presentValues_le {b : Blocks} (c : Channel) {lanes : LaneSet}
    (voters : ∀ l, b.laneState l = .voting → lanes.has l = true) :
    ((b.presentValues c).map Prod.snd).length ≤ lanes.size := by
  calc ((b.presentValues c).map Prod.snd).length = ((b.presentValues c).map Prod.fst).length := by simp
    _ ≤ b.inputLanes.size := (b.fst_presentValues c).length_le
    _ ≤ lanes.size := IndexSet.size_le_of_subset fun l input => voters l ((b.has_inputLanes l).mp input).2

end Blocks

/-- The values 0 and 1 are counted apart. -/
theorem count_one_add_count_zero_le (values : List Nat) : values.count 1 + values.count 0 ≤ values.length := by
  induction values with
  | nil => simp
  | cons v rest ih =>
    simp only [List.count_cons, List.length_cons, beq_iff_eq]
    split <;> split <;> omega

/-- Settles O39: with Q above half the enrolled lanes the two counts cannot both reach it. -/
theorem discreteJudgedByCounting : Obligations.DiscreteJudgedByCounting := by
  intro b c discrete values
  have judged : b.outcomeOf c = judgeDiscrete b.config.quorum values := by
    simp only [Blocks.outcomeOf, discrete]
    rfl
  rw [judged, judgeDiscrete]
  refine ⟨fun on => if_pos on, fun not_on off => ?_, fun not_on not_off => ?_, fun few => ?_,
    fun majority voters both => ?_⟩
  · rw [if_neg (Nat.not_le.mpr not_on), if_pos off]
  · rw [if_neg (Nat.not_le.mpr not_on), if_neg (Nat.not_le.mpr not_off)]
  · have on : values.count 1 ≤ values.length := List.count_le_length
    have off : values.count 0 ≤ values.length := List.count_le_length
    rw [if_neg (by omega), if_neg (by omega)]
  · have apart := count_one_add_count_zero_le values
    have few : values.length ≤ b.config.enrolled.size := Blocks.length_presentValues_le c voters
    omega

/-- Settles O41: the outcomes AGREED and NO_QUORUM, the latter held or fallen back. -/
theorem holdAndFallbackByOutcome : Obligations.HoldAndFallbackByOutcome := by
  intro b c
  refine ⟨fun v agreed => ?_, fun held still => ?_, fun held past => ?_⟩
  · simp only [Blocks.candidate, Blocks.newHold, Blocks.newStale, agreed, and_self]
  · have hold : b.newHold c = (b.vote.channels.row c).hold + 1 := by
      simp only [Blocks.newHold, held]
      omega
    simp only [Blocks.candidate, Blocks.newStale, held, hold, if_pos still, and_self]
  · have hold : b.newHold c = (b.entry c).holdRounds + 1 := by
      simp only [Blocks.newHold, held]
      omega
    have beyond : ¬ (b.entry c).holdRounds + 1 ≤ (b.entry c).holdRounds := by omega
    simp only [Blocks.candidate, Blocks.newStale, held, hold, if_neg beyond, and_self]

/-! ## Dissent -/

theorem has_foldl_insert_fst (found : List (Lane × Nat)) (set : LaneSet) (l : Lane) :
    (found.foldl (fun s p => s.insert p.1) set).has l = true ↔ set.has l = true ∨ ∃ v, (l, v) ∈ found := by
  induction found generalizing set with
  | nil => simp
  | cons p rest ih =>
    obtain ⟨m, w⟩ := p
    simp only [List.foldl_cons, ih, IndexSet.has_insert, Bool.or_eq_true, decide_eq_true_eq, List.mem_cons,
      Prod.mk.injEq]
    constructor
    · rintro ((old | rfl) | ⟨v, mem⟩)
      · exact .inl old
      · exact .inr ⟨w, .inl ⟨rfl, rfl⟩⟩
      · exact .inr ⟨v, .inr mem⟩
    · rintro (old | ⟨v, ⟨rfl, rfl⟩ | mem⟩)
      · exact .inl (.inl old)
      · exact .inl (.inr rfl)
      · exact .inr ⟨v, mem⟩

theorem disagreesWith_iff (e : ChannelEntry) (v w : Nat) : disagreesWith e v w = true ↔
    (e.type = .discrete ∧ w ≠ v) ∨ (e.type = .level ∧ (v + e.tolerance < w ∨ w + e.tolerance < v)) := by
  unfold disagreesWith
  split <;> rename_i type <;> simp [type, lt_distance_iff]

/-- Settles O42: dissent is disagreement with an AGREED value. -/
theorem dissentByOutcome : Obligations.DissentByOutcome := by
  intro b c
  refine ⟨fun l => ?_, b.mem_presentValues_iff c, b.nodup_presentValues c⟩
  unfold Blocks.dissentOn
  split
  · rename_i outcome
    simp [outcome]
  · rename_i outcome
    simp [outcome]
  · rename_i v outcome
    simp only [has_foldl_insert_fst, IndexSet.has_empty, Bool.false_eq_true, false_or, List.mem_filter,
      disagreesWith_iff, outcome, RoundOutcome.agreed.injEq]
    constructor
    · rintro ⟨w, present, disagrees⟩
      exact ⟨v, w, rfl, present, disagrees⟩
    · rintro ⟨_, w, rfl, present, disagrees⟩
      exact ⟨w, present, disagrees⟩

end Sys2Proof.Machine
end

section
/-! # Staging areas under requests (07 R112 to R118) -/

namespace Sys2Proof.Machine

variable {s : State} {l : Lane} {q : Byte}

/-! ## STAGE_WRITE -/

/-- Settles O52: the refusals by device and staging state, then the bytes of the range replaced. -/
theorem stageWriteByState : Obligations.StageWriteByState := by
  intro s l q hi lo data takes wf offset refused
  have refused_of {o : Outcome} {payload : List Byte}
      (served : handleStageWrite l (hi :: lo :: data) s.toBlocks s.staging = unchanged s.toBlocks s.staging o payload) :
      refused o payload := ⟨_, rfl, receive_unchanged takes served⟩
  refine ⟨fun long => refused_of ?_, fun least most => ?_⟩
  · have malformed : parseStageWrite (hi :: lo :: data) = none :=
      parseStageWrite_malformed (by simp only [List.length_cons]; omega)
    simp only [handleStageWrite, malformed]
    rfl
  have parsed : parseStageWrite (hi :: lo :: data) = some (offset, data) := if_pos ⟨least, most⟩
  refine ⟨fun lockout => refused_of ?_, fun live sealing => refused_of ?_, fun live sealed => refused_of ?_,
    fun live opened beyond => refused_of ?_, fun live opened inside => ?_⟩
  · simp only [handleStageWrite, parsed, if_pos lockout]
  · simp only [handleStageWrite, parsed, if_neg live, sealing]
  · simp only [handleStageWrite, parsed, if_neg live, sealed]
  · have outside : beyondImage offset data.length = true := decide_eq_true beyond
    simp only [handleStageWrite, parsed, if_neg live, opened, outside, if_true]
  · have within : beyondImage offset data.length = false := decide_eq_false (Nat.not_lt.mpr inside)
    have served : handleStageWrite l (hi :: lo :: data) s.toBlocks s.staging
        = unchanged s.toBlocks (s.staging.put l ((s.staging.row l).written offset data)) .accepted [] := by
      simp only [handleStageWrite, parsed, if_neg live, opened, within, Bool.false_eq_true, if_false]
    obtain ⟨outside, blocks, staging, answered⟩ := receive_answered (k := 0x07#8) takes served
    refine ⟨_, rfl, outside, blocks, answered, fun m other => ?_, ?_⟩
    · rw [staging, Table.row_put_of_ne _ other.symm]
    · rw [staging, Table.row_put_self]
      exact ⟨opened, rfl, rfl, Memory.read_writeBytes data (s.staging.row l).image offset wf⟩

/-! ## STAGE_SEAL -/

/-- The port after the take of a request, whatever its owner answers. -/
theorem portTook_takeRequest (running : s.inReset = false) (k : Byte) (handle : Handler)
    (expected : (s.ports.row l).expected = q) : PortTook s (s.takeRequest l k q handle) l q := by
  have queue := s.takeRequest_queue l k q handle
  obtain ⟨next, taken, seq, transaction⟩ := s.takeRequest_port l k q handle
  have attn : ((s.takeRequest l k q handle).ports.row l).attn = (s.takeRequest l k q handle).attnCondition l :=
    State.updateAttn_attn _ l
  have still_running : (s.takeRequest l k q handle).inReset = false := running
  refine ⟨by rw [next, expected], taken, seq, transaction, ?_, fun m other => ?_⟩
  · simp [attn, State.attnCondition, still_running, queue]
  · rw [s.takeRequest_other l m k q handle other.symm]

/-- A taken request whose owner begins a seal reserves the last slot of the queue. -/
theorem receive_reserved {k : Byte} {p : List Byte} {handle : Handler} {staging : Staging} (takes : Takes s l q p)
    (served : handle s.toBlocks s.staging = ⟨s.toBlocks, staging, .reserve⟩) :
    OutsideKept s (s.receive l k q p handle) ∧ (s.receive l k q p handle).toBlocks = s.toBlocks ∧
    (s.receive l k q p handle).staging = staging ∧ PortTook s (s.receive l k q p handle) l q ∧
    ((s.receive l k q p handle).ports.row l).queue = (s.ports.row l).queue ++ [.reservation k q] := by
  have check := Port.check_of_takes takes
  obtain ⟨running, fits, expected, -⟩ := takes
  rw [s.receive_taken l k q p handle running fits check]
  obtain ⟨blocks, areas, power, clock, pending⟩ := s.takeRequest_kept l k q handle
  have queue := s.takeRequest_queue l k q handle
  rw [served] at blocks areas queue
  exact ⟨⟨power, clock, pending⟩, blocks, areas, portTook_takeRequest running k handle expected, queue⟩

/-- The first reservation of a queue is the one a completed seal fills. -/
theorem fillReservation_of_first (fill : Byte → Byte → Response) (before after : List ResponseSlot) (k q : Byte)
    (none_before : ∀ x ∈ before, x.isReservation = false) :
    State.fillReservation fill (before ++ .reservation k q :: after) = before ++ .response (fill k q) :: after := by
  induction before with
  | nil => rfl
  | cons x rest ih =>
    cases x with
    | reservation k' q' => exact absurd (none_before _ List.mem_cons_self) (by simp [ResponseSlot.isReservation])
    | response r =>
      simp only [List.cons_append, State.fillReservation]
      rw [ih fun x mem => none_before x (List.mem_cons_of_mem _ mem)]

theorem fillReservation_of_none (fill : Byte → Byte → Response) (queue : List ResponseSlot)
    (none : ∀ x ∈ queue, x.isReservation = false) : State.fillReservation fill queue = queue := by
  induction queue with
  | nil => rfl
  | cons x rest ih =>
    cases x with
    | reservation k' q' => exact absurd (none _ List.mem_cons_self) (by simp [ResponseSlot.isReservation])
    | response r => rw [State.fillReservation, ih fun x mem => none x (List.mem_cons_of_mem _ mem)]

theorem StagingArea.completed_of_valid {a : StagingArea} (valid : validate a.image = none) :
    a.completed = ⟨a.image, .sealed, some (imageDigest a.image), none⟩ ∧ a.sealOutcome = .accepted ∧
      a.sealPayload = bytes32 (imageDigest a.image) := by
  simp only [completed, sealOutcome, sealPayload, valid, and_self]

theorem StagingArea.completed_of_invalid {a : StagingArea} {f : InvalidConfig} (invalid : validate a.image = some f) :
    a.completed = ⟨a.image, .opened, none, none⟩ ∧ a.sealOutcome = .invalidConfig ∧
      a.sealPayload = f.reason.code :: bytes16 f.index := by
  simp only [completed, sealOutcome, sealPayload, invalid, and_self]

/-- The port of a lane after the completion of its seal: the queue filled, ATTN aside. -/
theorem row_completeSeal (s : State) (l : Lane) : ∃ attn, ((s.completeSeal l).updateAttn).ports.row l
    = { s.ports.row l with
        queue := State.fillReservation (fun k q => s.responseNow l k q (s.staging.row l).sealOutcome
          (s.staging.row l).sealPayload false) (s.ports.row l).queue
        attn := attn } := by
  simp [State.completeSeal]

/-- Settles O53: the seal that begins reserves its slot, and its completion fills it. -/
theorem sealBeginsAndCompletes : Obligations.SealBeginsAndCompletes := by
  refine ⟨?_, ?_⟩
  · intro s l q d takes refused
    have refused_of {o : Outcome} {payload : List Byte}
        (served : handleStageSeal l [] s.toBlocks s.staging = unchanged s.toBlocks s.staging o payload) :
        refused o payload := ⟨_, rfl, receive_unchanged takes served⟩
    refine ⟨fun lockout => refused_of ?_, fun live sealed digest => refused_of ?_,
      fun live sealing => refused_of ?_, fun live opened => ?_⟩
    · simp only [handleStageSeal, parseEmpty, if_pos lockout]
    · simp only [handleStageSeal, parseEmpty, if_neg live, sealed, digest, Option.getD_some]
    · simp only [handleStageSeal, parseEmpty, if_neg live, sealing]
    · have served : handleStageSeal l [] s.toBlocks s.staging
          = ⟨s.toBlocks, s.staging.put l (s.staging.row l).beginSeal, .reserve⟩ := by
        simp only [handleStageSeal, parseEmpty, if_neg live, opened]
      obtain ⟨outside, blocks, staging, took, queue⟩ := receive_reserved (k := 0x08#8) takes served
      exact ⟨_, rfl, outside, blocks, took, queue, staging⟩
  · intro s l n running image
    have completed : exec (.sealCompletion l) s = .next (s.completeSeal l).updateAttn :=
      congrArg _ (s.completeNow_running l n running)
    obtain ⟨attn, row⟩ := row_completeSeal s l
    refine ⟨_, (s.staging.row l).sealOutcome, (s.staging.row l).sealPayload, completed, ⟨rfl, rfl, rfl⟩, rfl, fun m other => ?_, fun valid => ?_, fun f invalid => ?_, ?_, ?_,
      fun before k q after front first => ?_, fun none => ?_⟩
    · simp [State.completeSeal, Table.row_put_of_ne _ other.symm]
    · obtain ⟨area, outcome, payload⟩ := StagingArea.completed_of_valid valid
      exact ⟨outcome, payload, congrArg (s.staging.put l) area⟩
    · obtain ⟨area, outcome, payload⟩ := StagingArea.completed_of_invalid invalid
      exact ⟨outcome, payload, congrArg (s.staging.put l) area⟩
    · rw [row]
    · rw [row]
    · simp only [row, front, fillReservation_of_first _ _ _ _ _ first]
      rfl
    · simp only [row, fillReservation_of_none _ _ none]

/-! ## STAGE_OPEN -/

namespace Blocks

/-- Reopening an image touches the ballots and the notices alone (06 R105). -/
theorem imageReopened_kept (b : Blocks) (l : Lane) (d : Digest) : b.imageReopened l d
    = { b with ballots := (b.imageReopened l d).ballots, notices := (b.imageReopened l d).notices } := by
  simp only [imageReopened, removeSupporter, postAll_eq]

theorem mem_imageReopened_iff (b : Blocks) (l : Lane) (d : Digest) (y : Ballot) :
    y ∈ (b.imageReopened l d).ballots ↔ y.supporters ≠ 0 ∧
      ∃ x ∈ b.ballots, (if x.action = .commitConfig d then { x with supporters := x.supporters.erase l } else x) = y := by
  simp only [imageReopened, ballots_removeSupporter, List.mem_filter, List.mem_map, bne_iff_ne, ne_eq, beq_iff_eq]
  exact and_comm

end Blocks

/-- Settles O55: an image that is reopened takes its lane out of the ballot of its digest. -/
theorem stageOpenByState : Obligations.StageOpenByState := by
  intro s l q d takes refused
  have refused_of {o : Outcome}
      (served : handleStageOpen l [] s.toBlocks s.staging = unchanged s.toBlocks s.staging o []) :
      refused o := ⟨_, rfl, receive_unchanged takes served⟩
  refine ⟨fun lockout => refused_of ?_, fun live sealing => refused_of ?_, fun live opened => refused_of ?_,
    fun live sealed digest supported => ?_⟩
  · simp only [handleStageOpen, parseEmpty, if_pos lockout]
  · simp only [handleStageOpen, parseEmpty, if_neg live, sealing]
  · simp only [handleStageOpen, parseEmpty, if_neg live, opened]
  · have served : handleStageOpen l [] s.toBlocks s.staging
        = unchanged (s.toBlocks.imageReopened l d) (s.staging.put l (s.staging.row l).reopened) .accepted [] := by
      simp only [handleStageOpen, parseEmpty, if_neg live, sealed, digest]
    obtain ⟨outside, blocks, staging, answered⟩ := receive_answered (k := 0x09#8) takes served
    refine ⟨_, rfl, outside, answered, staging, ?_, fun x open_x other => ?_, fun y open_y same => ?_,
      fun x open_x same ⟨m, other, supports⟩ => ?_⟩
    · rw [blocks]
      exact s.toBlocks.imageReopened_kept l d
    · rw [blocks, Blocks.mem_imageReopened_iff]
      exact ⟨supported x open_x, x, open_x, if_neg other⟩
    · rw [blocks, Blocks.mem_imageReopened_iff] at open_y
      obtain ⟨-, x, -, rfl⟩ := open_y
      by_cases action : x.action = .commitConfig d
      · simp [action, IndexSet.has_erase]
      · simp [action] at same
    · rw [blocks, Blocks.mem_imageReopened_iff]
      refine ⟨fun empty => ?_, x, open_x, if_pos same⟩
      have stays : (x.supporters.erase l).has m = true := by simp [IndexSet.has_erase, supports, other.symm]
      exact absurd stays (by simp [show x.supporters.erase l = 0 from empty])

/-! ## READ_STAGING -/

/-- The digest field of an area, and before it the named lane and the staging state (11 R182). -/
theorem StagingArea.payload_eq (a : StagingArea) (l : Lane) (range : Option (Nat × Nat)) : a.payload l range
    = [byte l.val, a.state.code]
      ++ (if a.state = .sealed then bytes32 (a.digest.getD 0) else [0x00#8, 0x00#8, 0x00#8, 0x00#8])
      ++ (match range with
          | none => []
          | some (offset, length) => Memory.bytes a.image offset length) := by
  cases state : a.state <;> simp [payload, digestField, state] <;> rfl

theorem parseReadStaging_named (l m : Lane) : parseReadStaging l [byte m.val] = some (m, none) := by
  revert l m
  decide

theorem parseReadStaging_own {l : Lane} {hi lo len : Byte} (least : 1 ≤ len.toNat) (most : len.toNat ≤ 192) :
    parseReadStaging l [byte l.val, hi, lo, len] = some (l, some (read16 hi lo, len.toNat)) := by
  have own : (byte l.val).toNat = l.val := by
    revert l
    decide
  exact if_pos ⟨own, least, most⟩

/-- Settles O56: the payload of the named area, with the bytes asked for of the lane's own. -/
theorem readStagingReturnsTheArea : Obligations.ReadStagingReturnsTheArea := by
  intro s l m q hi lo len area offset
  refine ⟨fun takes => ?_, fun takes least most => ⟨fun beyond => ?_, fun inside => ?_⟩⟩
  · have served : handleReadStaging l [byte m.val] s.toBlocks s.staging
        = unchanged s.toBlocks s.staging .accepted (area m) := by
      simp only [handleReadStaging, parseReadStaging_named, StagingArea.payload_eq, List.append_nil]
      rfl
    exact ⟨_, rfl, receive_unchanged takes served⟩
  · have outside : beyondImage (read16 hi lo) len.toNat = true := decide_eq_true beyond
    have served : handleReadStaging l [byte l.val, hi, lo, len] s.toBlocks s.staging
        = unchanged s.toBlocks s.staging .badEntry [0x00#8] := by
      simp only [handleReadStaging, parseReadStaging_own least most, outside, if_true]
    exact ⟨_, rfl, receive_unchanged takes served⟩
  · have within : beyondImage (read16 hi lo) len.toNat = false := decide_eq_false (Nat.not_lt.mpr inside)
    have served : handleReadStaging l [byte l.val, hi, lo, len] s.toBlocks s.staging
        = unchanged s.toBlocks s.staging .accepted
          (area l ++ (List.range len.toNat).map (fun k => Memory.read (s.staging.row l).image (offset + k))) := by
      simp only [handleReadStaging, parseReadStaging_own least most, within, Bool.false_eq_true, if_false,
        StagingArea.payload_eq]
      rfl
    exact ⟨_, rfl, receive_unchanged takes served⟩


end Sys2Proof.Machine
end

section
/-! # READ_STATUS and READ_CHANNELS (10 R174, R175, 11 R182) -/

namespace Sys2Proof.Machine

/-! ## READ_STATUS -/

theorem getLsbD_flags5 (b0 b1 b2 b3 b4 : Bool) :
    let byte := flagBit b0 0 ||| flagBit b1 1 ||| flagBit b2 2 ||| flagBit b3 3 ||| flagBit b4 4
    byte.getLsbD 0 = b0 ∧ byte.getLsbD 1 = b1 ∧ byte.getLsbD 2 = b2 ∧ byte.getLsbD 3 = b3 ∧ byte.getLsbD 4 = b4 := by
  revert b0 b1 b2 b3 b4
  decide

theorem getLsbD_flags2 (b0 b1 : Bool) :
    (flagBit b0 0 ||| flagBit b1 1).getLsbD 0 = b0 ∧ (flagBit b0 0 ||| flagBit b1 1).getLsbD 1 = b1 := by
  revert b0 b1
  decide

theorem flagBit_zero (b : Bool) : flagBit b 0 = if b = true then 0x01#8 else 0x00#8 := by
  revert b
  decide

theorem Blocks.exists_lockoutBytes (b : Blocks) : ∃ c0 c1 c2 c3, b.lockoutBytes = [c0, c1, c2, c3] := by
  unfold Blocks.lockoutBytes
  split
  · exact ⟨_, _, _, _, rfl⟩
  · exact ⟨_, _, _, _, rfl⟩

theorem exists_entryNumber (n : Option Notice) : ∃ c0 c1, Blocks.entryNumber n = [c0, c1] := by
  cases n
  · exact ⟨_, _, rfl⟩
  · exact ⟨_, _, rfl⟩

/-- Settles O58: byte by byte the items of the state at their places. -/
theorem readStatusReportsTheState : Obligations.ReadStatusReportsTheState := by
  intro s l q takes
  obtain ⟨ports, answered⟩ := receive_unchanged (k := 0x0C#8) (handle := handleReadStatus []) takes rfl
  obtain ⟨c0, c1, c2, c3, lockout⟩ := s.exists_lockoutBytes
  obtain ⟨f0, f1, first⟩ := exists_entryNumber s.notices.queue.head?
  obtain ⟨n0, n1, newest⟩ := exists_entryNumber s.notices.queue.getLast?
  have bytes : s.statusPayload = [s.device.code] ++ bytes16 s.vote.nextRound.toNat
      ++ [s.vote.openRound.code, laneSetByte s.vote.proposers, s.statusPresence]
      ++ bytes32 ((s.active.map ActiveConfig.digest).getD 0)
      ++ bytes32 ((s.pendingRecord.map PendingRecord.digest).getD 0) ++ [s.quorumByte]
      ++ (s.laneBytes 0 ++ s.laneBytes 1 ++ s.laneBytes 2 ++ s.laneBytes 3) ++ [flagBit s.failn 0]
      ++ [c0, c1, c2, c3] ++ [byte s.notices.queue.length, f0, f1, n0, n1] := by
    rw [Blocks.statusPayload, lockout, first, newest]
    rfl
  refine ⟨_, s.statusPayload, rfl, ports, answered, ?_⟩
  rw [bytes]
  refine ⟨rfl, rfl, rfl, rfl, rfl, getLsbD_flags5 .., fun a active => ⟨?_, ?_⟩, fun r pending => ?_, fun m => ?_,
    flagBit_zero _, fun r record => ?_, rfl, fun n front => ?_, fun n back => ?_⟩
  · change bytes32 ((s.active.map ActiveConfig.digest).getD 0) = _
    rw [active]
    rfl
  · change s.quorumByte = _
    rw [Blocks.quorumByte, active]
  · change bytes32 ((s.pendingRecord.map PendingRecord.digest).getD 0) = _
    rw [pending]
    rfl
  · obtain ⟨returning, rejoining⟩ := getLsbD_flags2 (s.lanes.row m).returnPending (s.lanes.row m).rejoinRequested
    fin_cases m
    all_goals exact ⟨rfl, rfl, returning, rejoining, rfl⟩
  · rw [Blocks.lockoutBytes, record] at lockout
    cases lockout
    exact ⟨rfl, rfl, rfl⟩
  · rw [front] at first
    exact first.symm
  · rw [back] at newest
    exact newest.symm

/-! ## READ_CHANNELS -/

/-- The fields of a channel's status byte, each at its place. -/
theorem channelStatus_fields (type : ChannelType) (fault : FaultState) (level : ReadbackLevel)
    (settling stale withheld : Bool) :
    let status := type.code ||| (fault.code <<< 2) ||| (levelCode level <<< 4) ||| flagBit settling 5
      ||| flagBit stale 6 ||| flagBit withheld 7
    status.toNat % 4 = type.code.toNat ∧ status.toNat / 4 % 4 = fault.code.toNat ∧
      (status.getLsbD 4 = true ↔ level = .energized) ∧ status.getLsbD 5 = settling ∧ status.getLsbD 6 = stale ∧
      status.getLsbD 7 = withheld := by
  revert settling stale withheld
  cases type <;> cases fault <;> cases level <;> decide

theorem getLsbD_laneSetByte (lanes : LaneSet) (m : Lane) : (laneSetByte lanes).getLsbD m.val = lanes.has m := by
  have small : m.val < 8 := by omega
  simp [laneSetByte, IndexSet.has, small]

theorem Blocks.has_vetoingLanes (b : Blocks) (c : Channel) (m : Lane) :
    (b.vetoingLanes c).has m = (b.output.vetoes.row m).has c := by
  simp [vetoingLanes]

theorem Blocks.length_channelBytes (b : Blocks) (c : Channel) : (b.channelBytes c).length = 7 := rfl

/-- The channels from `first` onward are those numbered from it, in order. -/
theorem val_channelsFrom {first count : Nat} (inside : first + count ≤ 64) :
    (Blocks.channelsFrom first count).map Fin.val = (List.range count).map (first + ·) := by
  refine List.Pairwise.eq_of_mem_iff (r := (· < ·)) ?_ ?_ fun n => ?_
  · exact ((List.pairwise_lt_finRange 64).filter _).map _ fun _ _ below => below
  · exact List.pairwise_lt_range.map _ fun _ _ below => Nat.add_lt_add_left below first
  · simp only [Blocks.channelsFrom, List.mem_map, List.mem_filter, List.mem_finRange, true_and, decide_eq_true_eq,
      List.mem_range]
    constructor
    · rintro ⟨c, ⟨least, below⟩, rfl⟩
      exact ⟨c.val - first, by omega, by omega⟩
    · rintro ⟨i, below, rfl⟩
      exact ⟨⟨first + i, by omega⟩, ⟨Nat.le_add_right .., Nat.add_lt_add_left below first⟩, rfl⟩

theorem length_channelsFrom {first count : Nat} (inside : first + count ≤ 64) :
    (Blocks.channelsFrom first count).length = count := by
  have length := congrArg List.length (val_channelsFrom inside)
  simpa using length

/-- The record of a channel begins at its place in the payload. -/
theorem drop_channelsPayload (b : Blocks) {first count : Nat} (inside : first + count ≤ 64) {c : Channel}
    (least : first ≤ c.val) (below : c.val < first + count) :
    ∃ rest, (b.channelsPayload first count).drop (2 + 7 * (c.val - first)) = b.channelBytes c ++ rest := by
  have inList : c.val - first < (Blocks.channelsFrom first count).length := by rw [length_channelsFrom inside]; omega
  have found : (Blocks.channelsFrom first count)[c.val - first] = c := by
    have value : ((Blocks.channelsFrom first count).map Fin.val)[c.val - first]? = some c.val := by
      rw [val_channelsFrom inside, List.getElem?_map, List.getElem?_range (by omega)]
      simp only [Option.map_some, Option.some.injEq]
      omega
    rw [List.getElem?_map, List.getElem?_eq_getElem inList] at value
    exact Fin.ext (Option.some.inj value)
  have start : (b.channelsPayload first count).drop (2 + 7 * (c.val - first))
      = ((Blocks.channelsFrom first count).flatMap b.channelBytes).drop (7 * (c.val - first)) := by
    rw [← List.drop_drop]
    rfl
  rw [start, drop_flatMap_records b.length_channelBytes, List.drop_eq_getElem_cons inList, found]
  exact ⟨_, List.flatMap_cons⟩

/-- Settles O59: the record of each channel at its place, field by field. -/
theorem readChannelsReportsTheChannels : Obligations.ReadChannelsReportsTheChannels := by
  intro s l q first count takes low least most
  have parsed : parseReadChannels [first, count] = some (first.toNat, count.toNat) := if_pos ⟨low, least, most⟩
  by_cases beyond : 64 < first.toNat + count.toNat
  · have served : handleReadChannels [first, count] s.toBlocks s.staging
        = unchanged s.toBlocks s.staging .badEntry [0x00#8] := by
      simp only [handleReadChannels, parsed, if_pos beyond]
    obtain ⟨ports, answered⟩ := receive_unchanged (k := 0x0D#8) takes served
    exact ⟨_, rfl, ports, fun _ => answered, fun inside => absurd inside (by omega)⟩
  · have inside : first.toNat + count.toNat ≤ 64 := by omega
    have served : handleReadChannels [first, count] s.toBlocks s.staging
        = unchanged s.toBlocks s.staging .accepted (s.channelsPayload first.toNat count.toNat) := by
      simp only [handleReadChannels, parsed, if_neg beyond]
    obtain ⟨ports, answered⟩ := receive_unchanged (k := 0x0D#8) takes served
    refine ⟨_, rfl, ports, fun wide => absurd wide beyond, fun _ => ⟨_, answered, ?_, byte_toNat first, byte_toNat count,
      fun c from_first below => ?_⟩⟩
    · simp only [Blocks.channelsPayload, List.length_append, length_flatMap_records s.length_channelBytes,
        length_channelsFrom inside, List.length_cons, List.length_nil]
    · intro r o
      obtain ⟨rest, record⟩ := drop_channelsPayload s.toBlocks inside from_first below
      have bytes : r = s.channelBytes c ++ rest := record
      rw [bytes]
      obtain ⟨type, fault, level, settling, stale, withheld⟩ := channelStatus_fields (s.channelType c) o.fault o.readback
        o.settling (s.vote.channels.row c).stale (s.vote.channels.row c).withheld
      exact ⟨type, fault, level, settling, stale, withheld, rfl, rfl, rfl, fun m =>
        (getLsbD_laneSetByte _ m).trans (s.has_vetoingLanes c m)⟩

end Sys2Proof.Machine
end

section
/-! # The validity checks of a seal in their order (07 R119, 03 R43) -/

namespace Sys2Proof.Machine

/-! ## The first failure of a list of checks -/

/-- The check named by its reason and index passes. -/
abbrev PassesCheck (m : Memory) (x : InvalidConfig) : Prop := Passes m x.reason x.index

/-- A result of the named checks: none fails, or the one reported is the first that does. -/
def Reports (m : Memory) (named : List InvalidConfig) : Option InvalidConfig → Prop
  | none => ∀ x ∈ named, PassesCheck m x
  | some f => ∃ before after, named = before ++ f :: after ∧ (∀ x ∈ before, PassesCheck m x) ∧ ¬ PassesCheck m f

theorem firstFailure_append (xs ys : List (Option InvalidConfig)) :
    firstFailure (xs ++ ys) = (firstFailure xs).or (firstFailure ys) := by
  induction xs with
  | nil => rfl
  | cons x rest ih =>
    cases x with
    | none => exact ih
    | some f => rfl

namespace Reports

variable {m : Memory}

theorem nil : Reports m [] none := fun _ mem => by cases mem

theorem append {first last : List InvalidConfig} {r r' : Option InvalidConfig} (h : Reports m first r)
    (h' : Reports m last r') : Reports m (first ++ last) (r.or r') := by
  cases r with
  | some f =>
    obtain ⟨before, after, rfl, passed, failed⟩ := h
    exact ⟨before, after ++ last, by simp, passed, failed⟩
  | none =>
    cases r' with
    | none => exact fun x mem => (List.mem_append.mp mem).elim (h x) (h' x)
    | some f =>
      obtain ⟨before, after, rfl, passed, failed⟩ := h'
      exact ⟨first ++ before, after, by simp, fun x mem => (List.mem_append.mp mem).elim (h x) (passed x), failed⟩

/-- One check. -/
theorem single {x : InvalidConfig} {result : Option InvalidConfig} (pass : PassesCheck m x → result = none)
    (fail : ¬ PassesCheck m x → result = some x) : Reports m [x] result := by
  by_cases passes : PassesCheck m x
  · rw [pass passes]
    intro y mem
    rw [List.mem_singleton.mp mem]
    exact passes
  · rw [fail passes]
    exact ⟨[], [], rfl, by simp, passes⟩

/-- A check before others. -/
theorem cons {named rest : List InvalidConfig} {check : Option InvalidConfig} {checks : List (Option InvalidConfig)}
    (first : Reports m named check) (later : Reports m rest (firstFailure checks)) :
    Reports m (named ++ rest) (firstFailure (check :: checks)) := by
  have both := first.append later
  cases check <;> exact both

/-- The checks of a row of things, one after the other. -/
theorem flatMap {α : Type} {things : List α} {named : α → List InvalidConfig} {check : α → Option InvalidConfig}
    (each : ∀ a ∈ things, Reports m (named a) (check a)) :
    Reports m (things.flatMap named) (firstFailure (things.map check)) := by
  induction things with
  | nil => exact nil
  | cons a rest ih => exact (each a List.mem_cons_self).cons (ih fun b mem => each b (List.mem_cons_of_mem a mem))

/-- One check for each of a row of things. -/
theorem map {α : Type} {things : List α} {named : α → InvalidConfig} {check : α → Option InvalidConfig}
    (each : ∀ a ∈ things, Reports m [named a] (check a)) :
    Reports m (things.map named) (firstFailure (things.map check)) := by
  rw [List.map_eq_flatMap]
  exact flatMap each

end Reports

/-! ## The single fields (07 R119, checks 1 to 7) -/

theorem size_imageEnrolled (m : Memory) : (imageEnrolled m).size = enrolledCount m := by
  have below (n : Nat) (h : n < 4) : (imageEnrolled m).getLsbD n = (Memory.read m 0).getLsbD n := by
    simp [imageEnrolled, h]
  have lanes : List.range 4 = (List.finRange 4).map Fin.val := by decide
  rw [IndexSet.size, IndexSet.members, ← List.countP_eq_length_filter, enrolledCount, lanes, List.countP_map]
  refine List.countP_congr fun l _ => ?_
  rw [IndexSet.has, below l.val l.isLt]
  rfl

/-- A check of a field with index 0. -/
theorem reports_require {m : Memory} {ok : Bool} {reason : InvalidReason} (passes : Passes m reason 0 ↔ ok = true) :
    Reports m [⟨reason, 0⟩] (require ok reason) :=
  .single (fun pass => if_pos (passes.mp pass)) fun fail => if_neg (mt passes.mpr fail)

theorem passes_zero_iff {p : Prop} : ((0 : Nat) = 0 → p) ↔ p := by simp

/-! ## Channels (check 8) -/

theorem imageByte_lt (m : Memory) (a : Nat) : imageByte m a < 256 := (Memory.read m a).isLt

theorem entryInRange_iff (e : ChannelEntry) : entryInRange e = true ↔
    (e.type = .unused ∧ e.fallback = 0 ∧ e.tolerance = 0 ∧ e.holdRounds = 0 ∧ e.settleTime = 0 ∧
      e.readbackChecked = false) ∨
    (e.type = .discrete ∧ e.fallback ≤ 1 ∧ e.tolerance = 0 ∧ e.holdRounds ≤ 15 ∧ 1 ≤ e.settleTime ∧
      e.settleTime ≤ 15) ∨
    (e.type = .level ∧ e.fallback ≤ 1000 ∧ e.tolerance ≤ 100 ∧ e.holdRounds ≤ 15 ∧ 1 ≤ e.settleTime ∧
      e.settleTime ≤ 15) := by
  cases type : e.type <;> simp [entryInRange, type, and_assoc]

/-- The ranges of an entry of type `t`, in terms of its bytes. -/
theorem entryInRange_imageEntry_iff (m : Memory) (c : Nat) (t : ChannelType) :
    entryInRange (imageEntry m c t) = true ↔
      (t = .unused ∧ imageWord m (16 + 5 * c + 1) = 0 ∧ imageByte m (16 + 5 * c + 3) = 0 ∧
        imageByte m (16 + 5 * c + 4) = 0) ∨
      (t = .discrete ∧ imageWord m (16 + 5 * c + 1) % 32768 ≤ 1 ∧ imageByte m (16 + 5 * c + 3) = 0 ∧
        1 ≤ imageByte m (16 + 5 * c + 4) % 16) ∨
      (t = .level ∧ imageWord m (16 + 5 * c + 1) % 32768 ≤ 1000 ∧ imageByte m (16 + 5 * c + 3) ≤ 100 ∧
        1 ≤ imageByte m (16 + 5 * c + 4) % 16) := by
  have settle := imageByte_lt m (16 + 5 * c + 4)
  have type : (imageEntry m c t).type = t := rfl
  have fallback : (imageEntry m c t).fallback = imageWord m (16 + 5 * c + 1) % 32768 := rfl
  have tolerance : (imageEntry m c t).tolerance = imageByte m (16 + 5 * c + 3) := rfl
  have hold : (imageEntry m c t).holdRounds = imageByte m (16 + 5 * c + 4) / 16 := rfl
  have settling : (imageEntry m c t).settleTime = imageByte m (16 + 5 * c + 4) % 16 := rfl
  have checked : (imageEntry m c t).readbackChecked = false ↔ imageWord m (16 + 5 * c + 1) < 32768 :=
    decide_eq_false_iff_not.trans Nat.not_le
  rw [entryInRange_iff, type, fallback, tolerance, hold, settling, checked]
  refine or_congr (and_congr_right fun _ => ?_) (or_congr (and_congr_right fun _ => ?_) (and_congr_right fun _ => ?_))
  all_goals omega

theorem typeOfCode?_eq_some_iff (m : Memory) (a : Nat) (t : ChannelType) :
    typeOfCode? (Memory.read m a) = some t ↔ imageByte m a = t.code.toNat := by
  rw [BitVec.toNat_inj]
  constructor
  · intro known
    unfold typeOfCode? at known
    split at known
    · cases known
      assumption
    split at known
    · cases known
      assumption
    split at known
    · cases known
      assumption
    · cases known
  · intro code
    rw [code]
    cases t <;> rfl

theorem entryPasses_iff (m : Memory) (c : Nat) : EntryPasses m (16 + 5 * c) ↔ channelValid m c = true := by
  have all_zero : (∀ k, k < 5 → imageByte m (16 + 5 * c + k) = 0) ↔ imageByte m (16 + 5 * c) = 0 ∧
      imageWord m (16 + 5 * c + 1) = 0 ∧ imageByte m (16 + 5 * c + 3) = 0 ∧ imageByte m (16 + 5 * c + 4) = 0 := by
    constructor
    · intro h
      have high := h 1 (by omega)
      have low : imageByte m (16 + 5 * c + 1 + 1) = 0 := h 2 (by omega)
      exact ⟨h 0 (by omega), by rw [imageWord, high, low], h 3 (by omega), h 4 (by omega)⟩
    · rintro ⟨code, word, third, fourth⟩ k below
      obtain ⟨high, low⟩ : imageByte m (16 + 5 * c + 1) = 0 ∧ imageByte m (16 + 5 * c + 1 + 1) = 0 := by
        rw [imageWord] at word
        omega
      match k, below with
      | 0, _ => exact code
      | 1, _ => exact high
      | 2, _ => exact low
      | 3, _ => exact third
      | 4, _ => exact fourth
  have valid : channelValid m c = true ↔
      ∃ t, typeOfCode? (Memory.read m (16 + 5 * c)) = some t ∧ entryInRange (imageEntry m c t) = true := by
    unfold channelValid entryOffset
    split
    · rename_i none
      simp [none]
    · rename_i t known
      simp [known]
  rw [valid, EntryPasses, all_zero]
  simp only [typeOfCode?_eq_some_iff, entryInRange_imageEntry_iff]
  constructor
  · rintro (⟨code, rest⟩ | ⟨code, rest⟩ | ⟨code, rest⟩)
    · exact ⟨.unused, code, .inl ⟨rfl, rest⟩⟩
    · exact ⟨.discrete, code, .inr (.inl ⟨rfl, rest⟩)⟩
    · exact ⟨.level, code, .inr (.inr ⟨rfl, rest⟩)⟩
  · rintro ⟨_, code, ⟨rfl, rest⟩ | ⟨rfl, rest⟩ | ⟨rfl, rest⟩⟩
    · exact .inl ⟨code, rest⟩
    · exact .inr (.inl ⟨code, rest⟩)
    · exact .inr (.inr ⟨code, rest⟩)

theorem reports_channel (m : Memory) {c : Nat} (inside : c < 64) :
    Reports m [⟨.channel, c⟩] (if channelValid m c then none else some ⟨.channel, c⟩) :=
  .single (fun pass => if_pos ((entryPasses_iff m c).mp (pass inside)))
    fun fail => if_neg fun valid => fail fun _ => (entryPasses_iff m c).mpr valid

/-! ## Groups (03 R43) -/

/-- The member bytes of the group at its offset. -/
abbrev memberByte (m : Memory) (g i : Nat) : Nat := imageByte m (336 + 9 * g + 1 + i)

theorem groupMembers_of_few {m : Memory} {g : Nat} (few : imageByte m (336 + 9 * g) ≤ 8) :
    groupMembers m g = (List.range (imageByte m (336 + 9 * g))).map (memberByte m g) := by
  have count : groupCount m g = imageByte m (336 + 9 * g) := rfl
  rw [groupMembers, count, Nat.min_eq_left few]
  rfl

theorem membersValid_iff (m : Memory) (seen members : List Nat) : membersValid m seen members = true ↔
    (∀ n ∈ members, memberIsDiscrete m n = true) ∧ (∀ n ∈ members, n ∉ seen) ∧ members.Nodup := by
  induction members generalizing seen with
  | nil => simp [membersValid]
  | cons n rest ih =>
    simp only [membersValid, Bool.and_eq_true, Bool.not_eq_true', List.contains_eq_mem, decide_eq_false_iff_not, ih,
      List.mem_cons, forall_eq_or_imp, List.nodup_cons, not_or]
    constructor
    · rintro ⟨⟨discrete, new⟩, others, apart, different⟩
      exact ⟨⟨discrete, others⟩, ⟨new, fun k mem => (apart k mem).2⟩, fun mem => (apart n mem).1 rfl, different⟩
    · rintro ⟨⟨discrete, others⟩, ⟨new, unseen⟩, alone, different⟩
      exact ⟨⟨discrete, new⟩, others, fun k mem => ⟨fun same => alone (same ▸ mem), unseen k mem⟩, different⟩

theorem memberIsDiscrete_iff (m : Memory) (n : Nat) :
    memberIsDiscrete m n = true ↔ n ≤ 63 ∧ imageByte m (16 + 5 * n) = 1 := by
  simp only [memberIsDiscrete, entryOffset, Bool.and_eq_true, decide_eq_true_eq, beq_iff_eq, ← BitVec.toNat_inj]
  rfl

theorem membersPass_iff (m : Memory) (g : Nat) : MembersPass m (336 + 9 * g) ↔
    imageByte m (336 + 9 * g) ≤ 8 ∧ membersValid m [] (groupMembers m g) = true := by
  refine and_congr_right fun few => ?_
  rw [membersValid_iff, groupMembers_of_few few, List.nodup_map_iff_inj_on List.nodup_range]
  simp only [List.mem_map, List.mem_range, forall_exists_index, and_imp, forall_apply_eq_imp_iff₂,
    memberIsDiscrete_iff, List.not_mem_nil, not_false_eq_true, implies_true, true_and]
  constructor
  · refine fun pass => ⟨fun i below => ⟨(pass i below).1, (pass i below).2.1⟩, fun i hi j hj same => ?_⟩
    rcases Nat.lt_trichotomy i j with lt | eq | gt
    · exact absurd same ((pass j hj).2.2 i lt)
    · exact eq
    · exact absurd same.symm ((pass i hi).2.2 j gt)
  · rintro ⟨discrete, different⟩ i below
    refine ⟨(discrete i below).1, (discrete i below).2, fun j lt same => ?_⟩
    exact absurd (different j (by omega) i below same) (by omega)

theorem fallbacksPass_iff {m : Memory} {g : Nat} (few : imageByte m (336 + 9 * g) ≤ 8) :
    FallbacksPass m (336 + 9 * g) ↔
      (groupMembers m g).any (fun n => (imageEntry m n .discrete).fallback != 0) = false := by
  rw [groupMembers_of_few few, List.any_eq_false]
  simp only [List.mem_map, List.mem_range, forall_exists_index, and_imp, forall_apply_eq_imp_iff₂, bne_iff_ne, ne_eq,
    not_not]
  rfl

theorem reports_group (m : Memory) {g : Nat} (inside : g < 12) :
    Reports m [⟨.groupMember, g⟩, ⟨.groupFallback, g⟩] (checkGroup m g) := by
  have count : groupCount m g = imageByte m (336 + 9 * g) := rfl
  by_cases members : MembersPass m (336 + 9 * g)
  · obtain ⟨few, valid⟩ := (membersPass_iff m g).mp members
    have check : checkGroup m g = if (groupMembers m g).any (fun n => (imageEntry m n .discrete).fallback != 0)
        then some ⟨.groupFallback, g⟩ else none := by
      rw [checkGroup, count, if_neg (Nat.not_lt.mpr few), valid]
      rfl
    rw [check, ← List.singleton_append]
    refine Reports.append (r := none) (fun x mem => ?_) (.single (fun pass => if_neg ?_) fun fail => if_pos ?_)
    · rw [List.mem_singleton.mp mem]
      exact fun _ => members
    · rw [(fallbacksPass_iff few).mp (pass inside)]
      decide
    · by_contra off
      exact fail fun _ => (fallbacksPass_iff few).mpr (Bool.eq_false_iff.mpr off)
  · have check : checkGroup m g = some ⟨.groupMember, g⟩ := by
      rw [checkGroup, count]
      split
      · rfl
      · rename_i few
        have invalid : membersValid m [] (groupMembers m g) = false :=
          Bool.eq_false_iff.mpr fun valid => members ((membersPass_iff m g).mpr ⟨Nat.not_lt.mp few, valid⟩)
        rw [invalid]
        rfl
    rw [check]
    exact ⟨[], [⟨.groupFallback, g⟩], rfl, by simp, fun pass => members (pass inside)⟩

/-! ## Reserved bytes (11 R184) -/

/-- The reserved offsets within group `g`. -/
def groupReserved (m : Memory) (g : Nat) : List Nat :=
  ((List.range 8).drop (groupCount m g)).map (fun k => groupOffset g + 1 + k)

theorem mem_drop_range (k n i : Nat) : i ∈ (List.range n).drop k ↔ k ≤ i ∧ i < n := by
  rw [List.mem_drop_iff_getElem]
  simp only [List.getElem_range, List.length_range]
  constructor
  · rintro ⟨j, below, rfl⟩
    omega
  · rintro ⟨least, below⟩
    exact ⟨i - k, by omega, by omega⟩

theorem mem_groupReserved (m : Memory) (g a : Nat) :
    a ∈ groupReserved m g ↔ ∃ i, imageByte m (336 + 9 * g) ≤ i ∧ i < 8 ∧ a = 336 + 9 * g + 1 + i := by
  simp only [groupReserved, List.mem_map, mem_drop_range, groupOffset, and_assoc, eq_comm (a := a)]
  rfl

theorem mem_reservedOffsets (m : Memory) (a : Nat) : a ∈ reservedOffsets m ↔ Reserved m a := by
  have groups : (List.range 12).flatMap (fun g =>
      ((List.range 8).drop (groupCount m g)).map (fun k => groupOffset g + 1 + k))
      = (List.range 12).flatMap (groupReserved m) := rfl
  rw [reservedOffsets, groups, Reserved]
  simp only [List.mem_append, List.mem_map, List.mem_range, List.mem_flatMap, mem_groupReserved]
  constructor
  · rintro ((⟨i, below, rfl⟩ | ⟨g, inside, i, least, below, rfl⟩) | ⟨i, below, rfl⟩)
    · exact .inl (by omega)
    · exact .inr (.inr ⟨g, i, inside, least, below, rfl⟩)
    · exact .inr (.inl (by omega))
  · rintro (⟨least, most⟩ | ⟨least, most⟩ | ⟨g, i, inside, least, below, rfl⟩)
    · exact .inl (.inl ⟨a - 9, by omega, by omega⟩)
    · exact .inr ⟨a - 444, by omega, by omega⟩
    · exact .inl (.inr ⟨g, inside, i, least, below, rfl⟩)

theorem reservedOffsets_ascending (m : Memory) : (reservedOffsets m).Pairwise (· < ·) := by
  have groups : (List.range 12).flatMap (fun g =>
      ((List.range 8).drop (groupCount m g)).map (fun k => groupOffset g + 1 + k))
      = (List.range 12).flatMap (groupReserved m) := rfl
  rw [reservedOffsets, groups, List.pairwise_append, List.pairwise_append, List.pairwise_flatMap]
  simp only [List.mem_append, List.mem_map, List.mem_flatMap, List.mem_range, mem_groupReserved]
  refine ⟨⟨by decide, ⟨fun g _ => ?_, ?_⟩, ?_⟩, by decide, ?_⟩
  · exact (List.pairwise_lt_range.sublist (List.drop_sublist _ _)).map _ fun _ _ lt => Nat.add_lt_add_left lt _
  · refine List.pairwise_lt_range.imp fun {g g'} lt => ?_
    rintro _ ⟨i, -, below, rfl⟩ _ ⟨i', -, below', rfl⟩
    omega
  · rintro _ ⟨i, below, rfl⟩ _ ⟨g, -, i', -, -, rfl⟩
    omega
  · rintro _ (⟨i, below, rfl⟩ | ⟨g, inside, i, -, below, rfl⟩) _ ⟨i', below', rfl⟩
    · omega
    · omega

theorem reports_reserved {m : Memory} {a : Nat} (reserved : Reserved m a) :
    Reports m [⟨.reserved, a⟩] (if Memory.read m a = 0#8 then none else some ⟨.reserved, a⟩) := by
  have zero : imageByte m a = 0 ↔ Memory.read m a = 0#8 := BitVec.toNat_inj (y := 0#8)
  exact .single (fun pass => if_pos (zero.mp (pass reserved)))
    fun fail => if_neg fun byte => fail fun _ => zero.mpr byte

/-! ## All checks in their order -/

/-- The checks whose places do not depend on the image. -/
def fixedChecks : List InvalidConfig :=
  [⟨.enrolled, 0⟩, ⟨.quorum, 0⟩, ⟨.lease, 0⟩, ⟨.grace, 0⟩, ⟨.deadline, 0⟩, ⟨.strikes, 0⟩, ⟨.lifetime, 0⟩]
    ++ (List.range 64).map (⟨.channel, ·⟩) ++ (List.range 12).flatMap (fun g => [⟨.groupMember, g⟩, ⟨.groupFallback, g⟩])

/-- The checks of a seal in their order. -/
def sealChecks (m : Memory) : List InvalidConfig := fixedChecks ++ (reservedOffsets m).map (⟨.reserved, ·⟩)

/-- The place of a named check. -/
def InvalidConfig.place (x : InvalidConfig) : Nat := checkPlace x.reason x.index

theorem sealChecks_ascending (m : Memory) : (sealChecks m).Pairwise (fun x y => x.place < y.place) := by
  have below : ∀ x ∈ fixedChecks, x.place < 3000 := by decide +kernel
  refine List.pairwise_append.mpr ⟨by decide +kernel, ?_, fun x fixed y reserved => ?_⟩
  · exact (reservedOffsets_ascending m).map _ fun a b lt => Nat.add_lt_add_left lt 3000
  · obtain ⟨a, -, rfl⟩ := List.mem_map.mp reserved
    exact (below x fixed).trans_le (Nat.le_add_right 3000 a)

/-- The check of a reason is made with an index. -/
def CheckMade (m : Memory) : InvalidReason → Nat → Prop
  | .channel, c => c < 64
  | .groupMember, g => g < 12
  | .groupFallback, g => g < 12
  | .reserved, a => Reserved m a
  | _, i => i = 0

theorem made_of_fails {m : Memory} {reason : InvalidReason} {i : Nat} (fails : ¬ Passes m reason i) :
    CheckMade m reason i := by
  cases reason <;> exact (Classical.not_imp.mp fails).1

theorem mem_sealChecks_of_made {m : Memory} {reason : InvalidReason} {i : Nat} (made : CheckMade m reason i) :
    (⟨reason, i⟩ : InvalidConfig) ∈ sealChecks m := by
  rw [sealChecks, fixedChecks]
  cases reason
  case channel => simp [show i < 64 from made]
  case groupMember => simp [show i < 12 from made]
  case groupFallback => simp [show i < 12 from made]
  case reserved => exact List.mem_append_right _ (List.mem_map_of_mem ((mem_reservedOffsets m i).mpr made))
  all_goals simp [show i = 0 from made]

/-- A check that fails is one of the checks of a seal. -/
theorem mem_sealChecks_of_fails {m : Memory} {x : InvalidConfig} (fails : ¬ PassesCheck m x) : x ∈ sealChecks m :=
  mem_sealChecks_of_made (made_of_fails fails)

/-- Different checks of a seal have different places. -/
theorem eq_of_place_eq {m : Memory} {x y : InvalidConfig} (hx : x ∈ sealChecks m) (hy : y ∈ sealChecks m)
    (same : x.place = y.place) : x = y := by
  have places : ((sealChecks m).map InvalidConfig.place).Nodup :=
    ((sealChecks_ascending m).map (S := (· < ·)) _ fun _ _ lt => lt).imp Nat.ne_of_lt
  exact List.inj_on_of_nodup_map places hx hy same

theorem reports_singleFields (m : Memory) : Reports m
    [⟨.enrolled, 0⟩, ⟨.quorum, 0⟩, ⟨.lease, 0⟩, ⟨.grace, 0⟩, ⟨.deadline, 0⟩, ⟨.strikes, 0⟩, ⟨.lifetime, 0⟩]
    (firstFailure
      [ require (decide (2 ≤ (imageEnrolled m).size) && decide (Memory.u8 m 0 < 16)) .enrolled,
        require (decide ((imageEnrolled m).size < 2 * imageQuorum m) && decide (imageQuorum m ≤ (imageEnrolled m).size))
          .quorum,
        require (decide (5 ≤ Memory.u8 m 2)) .lease,
        require (decide (10 ≤ Memory.u16 m 3) && decide (Memory.u16 m 3 ≤ 2000)) .grace,
        require (decide (2 ≤ Memory.u8 m 5) && decide (Memory.u8 m 5 ≤ 100)) .deadline,
        require (decide (1 ≤ Memory.u8 m 6) && decide (Memory.u8 m 6 ≤ 15)) .strikes,
        require (decide (20 ≤ imageLifetime m) && decide (imageLifetime m ≤ 5000)) .lifetime ]) := by
  rw [size_imageEnrolled]
  refine .cons (reports_require ?_) (.cons (reports_require ?_) (.cons (reports_require ?_) (.cons (reports_require ?_)
    (.cons (reports_require ?_) (.cons (reports_require ?_) (.cons (reports_require ?_) .nil))))))
  case refine_3 => exact passes_zero_iff.trans decide_eq_true_iff.symm
  all_goals rw [Bool.and_eq_true, decide_eq_true_eq, decide_eq_true_eq]
  all_goals exact passes_zero_iff

theorem reports_validate (m : Memory) : Reports m (sealChecks m) (validate m) := by
  have checked := (((reports_singleFields m).append
    (.map fun c mem => reports_channel m (List.mem_range.mp mem))).append
    (.flatMap fun g mem => reports_group m (List.mem_range.mp mem))).append
    (.map fun a mem => reports_reserved ((mem_reservedOffsets m a).mp mem))
  rw [validate, firstFailure_append, firstFailure_append, firstFailure_append]
  exact checked

theorem validate_eq_none_iff (m : Memory) : validate m = none ↔ ∀ x, PassesCheck m x := by
  have reported := reports_validate m
  constructor
  · intro valid x
    rw [valid] at reported
    by_contra fails
    exact fails (reported x (mem_sealChecks_of_fails fails))
  · intro all
    cases result : validate m with
    | none => rfl
    | some f =>
      rw [result] at reported
      obtain ⟨before, after, -, -, failed⟩ := reported
      exact absurd (all f) failed

/-- The failure reported fails, and every check at an earlier place passes. -/
theorem first_of_validate {m : Memory} {f : InvalidConfig} (result : validate m = some f) :
    ¬ PassesCheck m f ∧ ∀ x : InvalidConfig, x.place < f.place → PassesCheck m x := by
  have reported := reports_validate m
  rw [result] at reported
  obtain ⟨before, after, order, passed, failed⟩ := reported
  refine ⟨failed, fun x earlier => ?_⟩
  by_contra fails
  have ascending := sealChecks_ascending m
  have listed := mem_sealChecks_of_fails fails
  rw [order] at ascending listed
  rcases List.mem_append.mp listed with early | late
  · exact fails (passed x early)
  · rcases List.mem_cons.mp late with rfl | later
    · exact Nat.lt_irrefl _ earlier
    · have beyond := List.rel_of_pairwise_cons (List.pairwise_append.mp ascending).2.1 later
      omega

/-- Settles O54: the checks are made in their order, each deciding what its place asks. -/
theorem sealChecksInOrder : Obligations.SealChecksInOrder := by
  intro m
  refine ⟨(validate_eq_none_iff m).trans ⟨fun all r i => all ⟨r, i⟩, fun all x => all x.reason x.index⟩, fun r i => ?_⟩
  constructor
  · intro result
    obtain ⟨fails, earlier⟩ := first_of_validate result
    exact ⟨fails, fun r' i' lt => earlier ⟨r', i'⟩ lt⟩
  · rintro ⟨fails, earlier⟩
    cases result : validate m with
    | none => exact absurd ((validate_eq_none_iff m).mp result ⟨r, i⟩) fails
    | some f =>
      obtain ⟨failed, before⟩ := first_of_validate result
      rcases Nat.lt_trichotomy f.place (checkPlace r i) with lt | eq | gt
      · exact absurd (earlier f.reason f.index lt) failed
      · exact congrArg some (eq_of_place_eq (mem_sealChecks_of_fails failed) (mem_sealChecks_of_fails fails) eq)
      · exact absurd (before ⟨r, i⟩ gt) fails

end Sys2Proof.Machine
end

section
/-! # LOCKOUT entry (05 R87) -/

namespace Sys2Proof.Machine

namespace Blocks

theorem discardBallots_eq (b : Blocks) : b.discardBallots = { b with
    ballots := []
    notices := posted b.vote.lastEnded b.notices
      (b.ballots.map fun x => .ballotEnded x.slot x.action .discarded x.supporters) } := by
  rw [discardBallots, postAll_eq]
  rfl

/-- The blocks at LOCKOUT entry, before the drives are recomputed. -/
theorem lockoutInputs_eq (b : Blocks) (cause : LockoutCause) : b.lockoutInputs cause = { b with
    lockoutRecord := some ⟨cause, b.vote.nextRound, b.device⟩
    device := .lockout
    vote := { b.vote with openRound := .none, deadline := none }
    pendingRecord := none
    ballots := []
    notices := posted b.vote.lastEnded b.notices
      (.stateChange b.device .lockout (lockoutStateCause cause)
        :: b.ballots.map fun x => .ballotEnded x.slot x.action .discarded x.supporters) } := by
  simp only [lockoutInputs, discardBallots_eq]
  rfl

/-- LOCKOUT drives every channel to its fallback value (01 R8). -/
theorem drive_enterLockout (b : Blocks) (cause : LockoutCause) (c : Channel) :
    ((b.enterLockout cause).channelOutput c).drive
      = if b.channelType c = .unused then ⟨.unused, 0⟩ else ⟨b.channelType c, b.fallback c⟩ := by
  rw [enterLockout_eq, channelOutput_updateFailn, channelOutput_refreshOutputs, refreshedOutput_drive,
    driveOf_of_idle (by simp [lockoutInputs_eq]), lockoutInputs_eq]
  rfl

theorem fault_enterLockout (b : Blocks) (cause : LockoutCause) (c : Channel) :
    (b.enterLockout cause).fault c = b.fault c := by
  have recomputed : (b.enterLockout cause).fault c = (b.lockoutInputs cause).refreshOutputs.fault c := rfl
  rw [recomputed, fault_refreshOutputs, lockoutInputs_eq]
  rfl

end Blocks

/-- A state whose blocks entered LOCKOUT. -/
theorem lockedOut_follows {s t : State} {cause : LockoutCause} (blocks : t.toBlocks = s.toBlocks.enterLockout cause) :
    t.device = .lockout ∧ t.lockoutRecord = some ⟨cause, s.vote.nextRound, s.device⟩ ∧
    t.vote = { s.vote with openRound := .none, deadline := none } ∧ t.lanes = s.lanes ∧ t.ballots = [] ∧
    t.pendingRecord = none ∧ t.active = s.active ∧ t.failn = true ∧ t.output.vetoes = s.output.vetoes ∧
    (∀ c, t.fault c = s.fault c ∧ (t.channelOutput c).drive
      = (if s.channelType c = .unused then ⟨.unused, 0⟩ else ⟨s.channelType c, s.fallback c⟩)) ∧
    t.notices = posted s.vote.lastEnded s.notices (.stateChange s.device .lockout (Blocks.lockoutStateCause cause)
      :: s.ballots.map (fun x => .ballotEnded x.slot x.action .discarded x.supporters)) := by
  have failn := s.enterLockout_failn cause
  have outputs (c : Channel) := And.intro (s.fault_enterLockout cause c) (s.drive_enterLockout cause c)
  rw [← blocks] at failn outputs
  rw [Blocks.enterLockout_eq, Blocks.lockoutInputs_eq] at blocks
  simp only [blocks] at failn outputs ⊢
  exact ⟨rfl, rfl, rfl, rfl, rfl, rfl, rfl, failn, rfl, outputs, rfl⟩

theorem exec_scrubRecheck_of_barred {s : State} {r : ProtectedRecord} {agrees : Bool}
    (barred : agrees = true ∨ s.inReset = true ∨ s.device = .lockout) : exec (.scrubRecheck r agrees) s = .next s := by
  have stands : execScrubRecheck r agrees s = .next s := if_pos barred
  exact stands

theorem exec_scrubRecheck_of_failed {s : State} (r : ProtectedRecord) (running : s.inReset = false)
    (live : s.device ≠ .lockout) : exec (.scrubRecheck r false) s
      = .next (s.setBlocks (s.toBlocks.enterLockout .storeCheck)).updateAttn := by
  have failed : execScrubRecheck r false s = .next (s.setBlocks (s.toBlocks.enterLockout .storeCheck)).updateAttn :=
    if_neg (by simp [running, live])
  exact failed

/-! ## The expiries of the blocks, when due -/

theorem exec_deadline_due {s : State} (due : s.timer .deadline = some 0) (e : Option Evaluation) :
    exec (.roundDeadlineExpiry e) s = .next (s.setBlocks (s.toBlocks.closeRound e)).updateAttn :=
  congrArg _ (s.expireNow_due .deadline e due)

theorem exec_lease_due {s : State} {l : Lane} (due : s.timer (.lease l) = some 0) (e : Option Evaluation) :
    exec (.leaseExpiry l e) s = .next (s.setBlocks (s.toBlocks.leaseExpires l e)).updateAttn :=
  congrArg _ (s.expireNow_due (.lease l) e due)

theorem exec_grace_due {s : State} {l : Lane} (due : s.timer (.grace l) = some 0) :
    exec (.graceExpiry l) s = .next (s.setBlocks (s.toBlocks.graceExpires l)).updateAttn :=
  congrArg _ (s.expireNow_due (.grace l) none due)

/-- Settles O38: a failed re-check and a mismatched close each bring about the LOCKOUT entry. -/
theorem failuresEnterLockout : Obligations.FailuresEnterLockout := by
  intro s enters
  have enters_of {t : State} {cause : LockoutCause} (outside : OutsideKept s t) (staging : t.staging = s.staging)
      (blocks : t.toBlocks = s.toBlocks.enterLockout cause) : enters t cause (Blocks.lockoutStateCause cause) :=
    ⟨outside, staging, lockedOut_follows blocks⟩
  refine ⟨fun r => ⟨exec_scrubRecheck_of_barred (.inl rfl), fun barred => exec_scrubRecheck_of_barred (.inr barred.symm),
    fun live running => ?_⟩, fun e due differs => ?_⟩
  · exact ⟨_, exec_scrubRecheck_of_failed r running live, enters_of (cause := .storeCheck) ⟨rfl, rfl, rfl⟩ rfl rfl⟩
  · have mismatched : s.toBlocks.closeRound (some e) = s.toBlocks.enterLockout .evaluatorMismatch :=
      if_neg (by simpa [Blocks.evaluatorsAgree] using differs.symm)
    exact ⟨_, exec_deadline_due due (some e),
      enters_of (cause := .evaluatorMismatch) ⟨rfl, rfl, rfl⟩ rfl mismatched⟩

end Sys2Proof.Machine
end

section
/-! # KEEPALIVE (04 R58, R61) -/

namespace Sys2Proof.Machine

namespace Blocks

variable {b : Blocks} {l : Lane}

theorem keepaliveOutcome_of_live (live : b.device ≠ .lockout) : b.keepaliveOutcome l =
    match b.laneState l with
    | .absent => .notVoting
    | .linked => .accepted
    | .candidate => .accepted
    | .voting => .accepted
    | .suspect => .rejoining
    | .excluded => .excluded := by
  unfold keepaliveOutcome
  cases device : b.device
  case lockout => exact absurd device live
  all_goals cases b.laneState l <;> rfl

theorem keepaliveOutcome_of_lockout (lockout : b.device = .lockout) : b.keepaliveOutcome l = .lockout := by
  simp only [keepaliveOutcome, lockout]

/-- A renewal that restarts the lease leaves the lane its state. -/
theorem laneState_startLease (b : Blocks) (l : Lane) : (b.startLease l).laneState l = b.laneState l := by
  simp [laneState]

end Blocks

/-- Settles O28: the outcome by state, and the renewal that carries the effect. -/
theorem keepaliveByState : Obligations.KeepaliveByState := by
  intro s l q takes
  obtain ⟨t, done, blocks, staging, outside, answered⟩ := exec_keepalive takes
  have answers {o : Outcome} {state : LaneState} (outcome : s.keepaliveOutcome l = o)
      (after : (s.renew l).laneState l = state) : Answered s t l 0x03#8 q o [state.code] false :=
    outcome ▸ after ▸ answered
  refine ⟨t, done, staging, outside, fun lockout => ?_, fun live => ?_⟩
  · have stands := Blocks.renew_of_lockout (l := l) lockout
    exact ⟨answers (Blocks.keepaliveOutcome_of_lockout lockout) (by rw [stands]), blocks.trans stands⟩
  have outcome := Blocks.keepaliveOutcome_of_live (l := l) live
  have kept {o : Outcome} {state : LaneState} (before : s.laneState l = state) (reads : s.keepaliveOutcome l = o)
      (other : s.laneState l = .absent ∨ s.laneState l = .linked ∨ s.laneState l = .excluded) :
      Answered s t l 0x03#8 q o [state.code] false ∧ t.toBlocks = s.toBlocks := by
    have stands := Blocks.renew_of_not_member other
    exact ⟨answers reads (by rw [stands, before]), blocks.trans stands⟩
  have restarted {o : Outcome} {state : LaneState} (before : s.laneState l = state) (reads : s.keepaliveOutcome l = o)
      (member : s.laneState l = .candidate ∨ s.laneState l = .voting) :
      Answered s t l 0x03#8 q o [state.code] false ∧ t.toBlocks = { s.toBlocks with
        lanes := s.lanes.put l { s.lanes.row l with lease := some s.config.lease } } := by
    have lease := Blocks.renew_of_member live member
    exact ⟨answers reads (by rw [lease, Blocks.laneState_startLease, before]), blocks.trans lease⟩
  refine ⟨fun absent => kept absent ?_ (.inl absent), fun linked => kept linked ?_ (.inr (.inl linked)),
    fun candidate => restarted candidate ?_ (.inl candidate), fun voting => restarted voting ?_ (.inr voting),
    fun excluded => kept excluded ?_ (.inr (.inr excluded)), fun suspect running => ?_,
    fun suspect fresh idle => ?_⟩
  · rw [outcome, absent]
  · rw [outcome, linked]
  · rw [outcome, candidate]
  · rw [outcome, voting]
  · rw [outcome, excluded]
  · have renewed := Blocks.renew_of_suspect_running running suspect
    exact ⟨answers (state := .suspect) (by rw [outcome, suspect]) (by rw [renewed]; simpa [Blocks.laneState] using suspect),
      blocks.trans renewed⟩
  · have renewed : s.toBlocks.renew l = s.toBlocks.takeReturn l := by
      rw [Blocks.renew_of_suspect live suspect, fresh]
      rfl
    have row := Blocks.row_takeReturn_of_idle idle suspect
    rw [← renewed] at row
    refine ⟨answers (state := .voting) (by rw [outcome, suspect]) (by rw [Blocks.laneState, row]), ?_⟩
    rw [Blocks.laneState, blocks, row]
    exact ⟨rfl, rfl, rfl, rfl⟩

end Sys2Proof.Machine
end

section
/-! # JOIN (04 R56, R57) -/

namespace Sys2Proof

namespace Machine

theorem parseJoin_bytes32 (d : Digest) : parseJoin (bytes32 d) = some d := congrArg some (read32_bytes32 d)

namespace Blocks

variable {b : Blocks} {l : Lane} {d : Digest}

/-! ## The lane record and the count -/

/-- A lane that comes from ABSENT joins the readers and brings about its MEMBER_CHANGE (04 R73). -/
theorem moveLane_of_absent {r : LaneRecord} (keeps : losesVetoes r.state = false) (absent : b.laneState l = .absent)
    (cause : MemberCause) (recompute : Bool) : b.moveLane l r cause recompute =
      ({ b.setLane l r with notices := b.notices.joinReader l } : Blocks).post (.memberChange l .absent r.state cause) := by
  have present : r.state ≠ .absent := by
    intro gone
    simp [losesVetoes, gone] at keeps
  simp [moveLane, vetoStep, keeps, readerStep, present, absent, supporterStep]

/-- One more lane is VOTING, the others as they were: the count is one more. -/
theorem votingCount_of_joined {b' : Blocks} (before : b.laneState l ≠ .voting) (after : b'.laneState l = .voting)
    (others : ∀ m, m ≠ l → b'.laneState m = b.laneState m) : b'.votingCount = b.votingCount + 1 := by
  have lanes : b'.votingLanes = b.votingLanes.insert l := by
    refine IndexSet.ext_members fun m => ?_
    by_cases same : m = l
    · simp [votingLanes, IndexSet.has_insert, same, after]
    · simp [votingLanes, IndexSet.has_insert, Ne.symm same, others m same]
  have new : b.votingLanes.has l = false := by simpa [votingLanes] using before
  rw [votingCount, lanes, IndexSet.size_insert new, votingCount]

/-! ## The effect of a JOIN, its renewal apart -/

theorem join_of_lockout (lockout : b.device = .lockout) : b.join l d = (b, .lockout) := by
  simp only [join, lockout]

theorem join_of_unconfigured (device : b.device = .unconfigured) (absent : b.laneState l = .absent) :
    b.join l d = (b.moveLane l { b.lanes.row l with state := .linked } .joined true, .accepted) := by
  simp only [join, device, absent]

/-- A lane that takes part already, or may not any more (04 R56). -/
theorem join_of_present (live : b.device ≠ .lockout) (present : b.laneState l ≠ .absent) : b.join l d =
    match b.laneState l with
    | .suspect => (b, .rejoining)
    | .excluded => (b.setLane l { b.lanes.row l with rejoinRequested := true }, .excluded)
    | _ => (b, .accepted) := by
  unfold join
  cases state : b.laneState l
  case absent => exact absurd state present
  all_goals
    cases device : b.device
    case lockout => exact absurd device live
    all_goals rfl

section Arrives

variable {a : ActiveConfig}

/-- The blocks in which lane `l` has gone from ABSENT to CANDIDATE. -/
def joinedBlocks (b : Blocks) (l : Lane) : Blocks :=
  { b with
    lanes := b.lanes.put l { b.lanes.row l with state := .candidate, lease := some b.config.lease }
    notices := (b.notices.joinReader l).post b.vote.lastEnded (.memberChange l .absent .candidate .joined) }

theorem join_of_absent (live : b.device ≠ .lockout) (configured : b.device ≠ .unconfigured)
    (absent : b.laneState l = .absent) : b.join l d =
      if b.config.enrolled.has l = false then (b, .notEnrolled)
      else if b.active.map ActiveConfig.digest ≠ some d then (b, .digestMismatch)
      else ((b.joinedBlocks l).admitOutsideRunning l, .accepted) := by
  have moved := moveLane_of_absent (b := b) (l := l)
    (r := { b.lanes.row l with state := .candidate, lease := some b.config.lease }) rfl absent .joined true
  have joined : b.moveLane l { b.lanes.row l with state := .candidate, lease := some b.config.lease } .joined true
      = b.joinedBlocks l := moved
  unfold join
  rw [absent, joined]
  simp only [Bool.not_eq_true']

/-! ## The admission that follows outside RUNNING (04 R65) -/

/-- The record of a lane that has joined and been admitted. -/
def admittedRecord (b : Blocks) (l : Lane) : LaneRecord :=
  { b.lanes.row l with state := .voting, lease := some b.config.lease, returnPending := false }

/-- The blocks in which lane `l` has gone from ABSENT over CANDIDATE to VOTING. -/
def admittedBlocks (b : Blocks) (l : Lane) : Blocks :=
  { b with
    lanes := b.lanes.put l (b.admittedRecord l)
    notices := ((b.notices.joinReader l).post b.vote.lastEnded (.memberChange l .absent .candidate .joined)).post
      b.vote.lastEnded (.memberChange l .candidate .voting .admitted) }

theorem admitLane_joinedBlocks (b : Blocks) (l : Lane) : (b.joinedBlocks l).admitLane l = b.admittedBlocks l := by
  have candidate : (b.joinedBlocks l).laneState l = .candidate := by simp [joinedBlocks, laneState]
  rw [admitLane_of_candidate candidate]
  simp only [joinedBlocks, admittedBlocks, admittedRecord, setLane, post, Table.row_put_self, Table.put_put]

theorem votingCount_admittedBlocks (absent : b.laneState l = .absent) :
    (b.admittedBlocks l).votingCount = b.votingCount + 1 :=
  votingCount_of_joined (l := l) (by simp [absent]) (by simp [admittedBlocks, admittedRecord, laneState])
    fun m other => by simp [admittedBlocks, laneState, Table.row_put_of_ne _ (Ne.symm other)]

theorem startLease_of_full (full : (b.lanes.row l).lease = some b.config.lease) : b.startLease l = b := by
  have record : ({ b.lanes.row l with lease := some b.config.lease } : LaneRecord) = b.lanes.row l := by rw [← full]
  rw [startLease, record, setLane, Table.put_row]

/-- The renewal of a JOIN that has just started the lease changes nothing (04 R61). -/
theorem renew_of_full (state : b.laneState l = .candidate ∨ b.laneState l = .voting)
    (full : (b.lanes.row l).lease = some b.config.lease) : b.renew l = b := by
  by_cases live : b.device = .lockout
  · exact renew_of_lockout live
  · rw [renew_of_member live state, startLease_of_full full]

theorem renew_joinedBlocks (b : Blocks) (l : Lane) : (b.joinedBlocks l).renew l = b.joinedBlocks l :=
  renew_of_full (.inl (by simp [joinedBlocks, laneState])) (by simp [joinedBlocks]; rfl)

theorem laneState_admittedBlocks (b : Blocks) (l : Lane) : (b.admittedBlocks l).laneState l = .voting := by
  simp [admittedBlocks, admittedRecord, laneState]

theorem renew_admittedBlocks (b : Blocks) (l : Lane) : (b.admittedBlocks l).renew l = b.admittedBlocks l :=
  renew_of_full (.inr (b.laneState_admittedBlocks l)) (by simp [admittedBlocks, admittedRecord]; rfl)

theorem laneState_enterRunning (b : Blocks) (l : Lane) : b.enterRunning.laneState l = b.laneState l := by
  rw [laneState, row_enterRunning]
  split <;> rfl

theorem renew_enterRunning (voting : b.laneState l = .voting) : b.enterRunning.renew l = b.enterRunning := by
  refine renew_of_full (.inr ((b.laneState_enterRunning l).trans voting)) ?_
  rw [row_enterRunning, if_pos voting]
  rfl

end Arrives

end Blocks

/-! ## RUNNING entered (05 R81) -/

namespace Blocks

/-- The blocks at the entry to RUNNING from GATHERING, before the drives are recomputed. -/
def runningInputs (b : Blocks) : Blocks := ({ b with device := .running } : Blocks).restartVotingLeases.openNextRound

theorem enterRunning_eq (b : Blocks) :
    b.enterRunning = b.runningInputs.refreshOutputs.postState .gathering .running .quorumReached := rfl

theorem channelOutput_enterRunning (b : Blocks) (c : Channel) :
    b.enterRunning.channelOutput c = b.runningInputs.refreshedOutput c :=
  b.runningInputs.channelOutput_refreshOutputs c

theorem fault_enterRunning (b : Blocks) (c : Channel) : b.enterRunning.fault c = b.fault c := by
  rw [fault, channelOutput_enterRunning, refreshedOutput_fault]
  rfl

theorem readback_enterRunning (b : Blocks) (c : Channel) :
    (b.enterRunning.channelOutput c).readback = (b.channelOutput c).readback := by
  rw [channelOutput_enterRunning, refreshedOutput, superviseOutput, driveTo_readback]
  rfl

theorem drive_enterRunning (b : Blocks) (c : Channel) : (b.enterRunning.channelOutput c).drive =
    if b.channelType c = .unused then ⟨.unused, 0⟩
    else if b.fault c = .none ∧ ∀ m, (b.output.vetoes.row m).has c = false
    then ⟨b.channelType c, b.agreed c⟩ else ⟨b.channelType c, b.fallback c⟩ := by
  have running : b.runningInputs.device = .running := rfl
  have type : b.runningInputs.channelType c = b.channelType c := rfl
  have fault : b.runningInputs.fault c = b.fault c := rfl
  have vetoes : b.runningInputs.output.vetoes = b.output.vetoes := rfl
  have agreed : b.runningInputs.agreed c = b.agreed c := rfl
  have fallback : b.runningInputs.fallback c = b.fallback c := rfl
  rw [channelOutput_enterRunning, refreshedOutput_drive, driveOf_eq_ite, type, fault, vetoes, agreed, fallback]
  simp only [running, true_and]

/-- The vote engine at the entry to RUNNING: an empty round is open in OPEN_IDLE (02 R16, R17). -/
theorem vote_enterRunning (b : Blocks) :
    b.enterRunning.vote = { emptyProposals b.vote with openRound := .idle, deadline := none } := rfl

theorem notices_enterRunning (b : Blocks) : b.enterRunning.notices
    = b.notices.post b.vote.lastEnded (.stateChange .gathering .running .quorumReached) := rfl

theorem vetoes_enterRunning (b : Blocks) : b.enterRunning.output.vetoes = b.output.vetoes := rfl

theorem proposals_emptyProposals (v : VoteEngine) (m : Lane) (c : Channel) :
    ((emptyProposals v).proposals.row m).row c = none := by
  simp [emptyProposals, ProposalRow.empty]

end Blocks

/-- A state whose blocks have entered RUNNING from GATHERING. -/
theorem entered_running_follows {t : State} {b : Blocks} (blocks : t.toBlocks = b.enterRunning) :
    t.device = .running ∧ t.vote.openRound = .idle ∧ t.vote.deadline = none ∧ t.vote.proposers = 0 ∧
    (∀ m c, (t.vote.proposals.row m).row c = none) ∧ t.vote.nextRound = b.vote.nextRound ∧
    t.vote.channels = b.vote.channels ∧
    t.notices = b.notices.post b.vote.lastEnded (.stateChange .gathering .running .quorumReached) ∧
    t.active = b.active ∧ t.pendingRecord = b.pendingRecord ∧ t.ballots = b.ballots ∧
    t.lockoutRecord = b.lockoutRecord ∧ t.failn = b.failn ∧ t.output.vetoes = b.output.vetoes ∧
    ∀ c, t.fault c = b.fault c ∧ (t.channelOutput c).readback = (b.channelOutput c).readback ∧
      (t.channelOutput c).drive = (if b.channelType c = .unused then ⟨.unused, 0⟩
        else if b.fault c = .none ∧ ∀ m, (b.output.vetoes.row m).has c = false
        then ⟨b.channelType c, b.agreed c⟩ else ⟨b.channelType c, b.fallback c⟩) := by
  obtain ⟨device, record, failn, ballots, active, pending, openRound⟩ := b.enterRunning_kept
  rw [blocks, b.notices_enterRunning, b.vote_enterRunning]
  exact ⟨device, rfl, rfl, rfl, Blocks.proposals_emptyProposals b.vote, rfl, rfl, rfl, active, pending, ballots, record, failn,
    b.vetoes_enterRunning, fun c => ⟨b.fault_enterRunning c, b.readback_enterRunning c, b.drive_enterRunning c⟩⟩

end Machine

end Sys2Proof
end

section
/-! # JOIN by state -/

namespace Sys2Proof.Machine

namespace Blocks

variable {b : Blocks} {l : Lane}

/-- In SAFE_HOLD, and in GATHERING without a quorum, the lane that joins is admitted and nothing follows. -/
theorem admitOutsideRunning_joinedBlocks_few (absent : b.laneState l = .absent)
    (few : b.device = .safeHold ∨ (b.device = .gathering ∧ b.votingCount + 1 < b.config.quorum)) :
    (b.joinedBlocks l).admitOutsideRunning l = b.admittedBlocks l := by
  have idle : (b.joinedBlocks l).device = .gathering ∨ (b.joinedBlocks l).device = .safeHold :=
    few.symm.imp And.left id
  rw [admitOutsideRunning_of_idle idle, admitLane_joinedBlocks]
  rcases few with safeHold | ⟨gathering, fewer⟩
  · exact reportCount_of_safeHold safeHold
  · have lacks : ¬ (b.admittedBlocks l).hasQuorum = true := by
      rw [hasQuorum_iff, votingCount_admittedBlocks absent]
      exact Nat.not_le.mpr fewer
    rw [reportCount_of_gathering (b := b.admittedBlocks l) gathering, if_neg lacks]

/-- In GATHERING the admission that brings the quorum enters RUNNING (05 R81). -/
theorem admitOutsideRunning_joinedBlocks_enough (absent : b.laneState l = .absent) (gathering : b.device = .gathering)
    (enough : b.config.quorum ≤ b.votingCount + 1) :
    (b.joinedBlocks l).admitOutsideRunning l = (b.admittedBlocks l).enterRunning := by
  have reached : (b.admittedBlocks l).hasQuorum = true := by
    rw [hasQuorum_iff, votingCount_admittedBlocks absent]
    exact enough
  rw [admitOutsideRunning_of_idle (b := b.joinedBlocks l) (.inl gathering), admitLane_joinedBlocks,
    reportCount_of_gathering (b := b.admittedBlocks l) gathering, if_pos reached]

theorem laneState_joinedBlocks (b : Blocks) (l : Lane) : (b.joinedBlocks l).laneState l = .candidate := by
  simp [joinedBlocks, laneState]

theorem config_of_active {a : ActiveConfig} (active : b.active = some a) : b.config = a.record := by
  simp [Blocks.config, active]

end Blocks

/-- The blocks and the answer of a JOIN: its effect, then its renewal (10 R171). -/
theorem exec_join {s : State} {l : Lane} {q : Byte} {d : Digest} (takes : Takes s l q (bytes32 d)) :
    ∃ t, exec (.join l q (bytes32 d)) s = .next t ∧ t.staging = s.staging ∧ OutsideKept s t ∧
      ∀ {b : Blocks} {o : Outcome} {b' : Blocks} {state : LaneState}, s.toBlocks.join l d = (b, o) → b.renew l = b' →
        b'.laneState l = state → Answered s t l 0x01#8 q o [state.code] false ∧ t.toBlocks = b' := by
  have served : handleJoin l (bytes32 d) s.toBlocks s.staging = unchanged ((s.toBlocks.join l d).1.renew l) s.staging
      (s.toBlocks.join l d).2 [(((s.toBlocks.join l d).1.renew l).laneState l).code] := by
    simp only [handleJoin, parseJoin_bytes32]
  obtain ⟨outside, blocks, staging, answered⟩ := receive_answered (k := 0x01#8) takes served
  refine ⟨_, rfl, staging, outside, fun joins renews state => ?_⟩
  rw [joins, renews, state] at answered
  rw [joins, renews] at blocks
  exact ⟨answered, blocks⟩

/-- Settles O27: what a JOIN does by device and lane state, then the renewal it carries. -/
theorem joinByState : Obligations.JoinByState := by
  intro s l q d takes r lease joined admitted voting
  obtain ⟨t, done, staging, outside, follows⟩ := exec_join takes
  have joins (a : ActiveConfig) (live : s.device ≠ .lockout) (configured : s.device ≠ .unconfigured)
      (active : s.active = some a) (absent : s.laneState l = .absent) (enrolled : a.record.enrolled.has l = true)
      (same : a.digest = d) :
      s.toBlocks.join l d = ((s.toBlocks.joinedBlocks l).admitOutsideRunning l, .accepted) := by
    rw [Blocks.join_of_absent live configured absent, Blocks.config_of_active active, if_neg (by simp [enrolled]),
      active, if_neg (by simpa using same)]
  have returns (live : s.device ≠ .lockout) (suspect : s.laneState l = .suspect) :
      s.toBlocks.join l d = (s.toBlocks, .rejoining) := by
    rw [Blocks.join_of_present live (by simp [suspect]), suspect]
  refine ⟨t, done, staging, outside, fun lockout => ?_, fun unconfigured absent => ?_,
    fun a live configured active absent => ⟨fun foreign => ?_, fun enrolled differs => ?_, fun enrolled same =>
      ⟨fun running => ?_, fun few => ?_, fun gathering enough => ?_⟩⟩,
    fun live => ⟨fun linked => ?_, fun candidate => ?_, fun voting => ?_, fun suspect running => ?_,
      fun suspect fresh idle => ?_, fun excluded => ?_⟩⟩
  · exact follows (Blocks.join_of_lockout lockout) (Blocks.renew_of_lockout lockout) rfl
  · have moved := Blocks.moveLane_of_absent (b := s.toBlocks) (l := l) (r := { r with state := .linked }) rfl absent
      .joined true
    have linked : ({ s.toBlocks with lanes := s.lanes.put l { r with state := .linked }, notices := joined .linked } :
        Blocks).laneState l = .linked := by simp [Blocks.laneState]
    refine follows (Blocks.join_of_unconfigured unconfigured absent) ?_ linked
    rw [moved]
    exact Blocks.renew_of_not_member (.inr (.inl linked))
  · have config := Blocks.config_of_active active
    have joins := Blocks.join_of_absent (d := d) live configured absent
    rw [config, if_pos foreign] at joins
    exact follows joins (Blocks.renew_of_not_member (.inl absent)) absent
  · have config := Blocks.config_of_active active
    have joins := Blocks.join_of_absent (d := d) live configured absent
    rw [config, if_neg (by simp [enrolled]), active, if_pos (by simpa using differs)] at joins
    exact follows joins (Blocks.renew_of_not_member (.inl absent)) absent
  · exact follows ((joins a live configured active absent enrolled same).trans
        (by rw [Blocks.admitOutsideRunning_of_running (b := s.toBlocks.joinedBlocks l) running]))
      (s.toBlocks.renew_joinedBlocks l) (s.toBlocks.laneState_joinedBlocks l)
  · exact follows ((joins a live configured active absent enrolled same).trans
        (by rw [Blocks.admitOutsideRunning_joinedBlocks_few absent few]))
      (s.toBlocks.renew_admittedBlocks l) (s.toBlocks.laneState_admittedBlocks l)
  · have voting := s.toBlocks.laneState_admittedBlocks l
    obtain ⟨answered, blocks⟩ := follows ((joins a live configured active absent enrolled same).trans
        (by rw [Blocks.admitOutsideRunning_joinedBlocks_enough absent gathering enough]))
      (Blocks.renew_enterRunning voting) ((Blocks.laneState_enterRunning _ l).trans voting)
    obtain ⟨device, openRound, deadline, proposers, proposals, nextRound, channels, notices, kept⟩ :=
      entered_running_follows blocks
    refine ⟨answered, device, ?_, fun m other => ?_, openRound, deadline, proposers, proposals, nextRound, channels,
      notices, kept⟩
    · rw [blocks, Blocks.row_enterRunning, if_pos voting]
      simp only [Blocks.admittedBlocks, Table.row_put_self]
      rfl
    · rw [blocks, Blocks.row_enterRunning]
      simp only [Blocks.laneState, Blocks.admittedBlocks, Table.row_put_of_ne _ (Ne.symm other)]
      rfl
  · have stays : s.toBlocks.join l d = (s.toBlocks, .accepted) := by
      rw [Blocks.join_of_present live (by simp [linked]), linked]
    exact follows stays (Blocks.renew_of_not_member (.inr (.inl linked))) linked
  · have stays : s.toBlocks.join l d = (s.toBlocks, .accepted) := by
      rw [Blocks.join_of_present live (by simp [candidate]), candidate]
    exact follows stays (Blocks.renew_of_member live (.inl candidate)) ((s.laneState_startLease l).trans candidate)
  · have stays : s.toBlocks.join l d = (s.toBlocks, .accepted) := by
      rw [Blocks.join_of_present live (by simp [voting]), voting]
    exact follows stays (Blocks.renew_of_member live (.inr voting)) ((s.laneState_startLease l).trans voting)
  · refine follows (returns live suspect) (Blocks.renew_of_suspect_running running suspect) (state := .suspect) ?_
    simpa [Blocks.laneState] using suspect
  · have row := Blocks.row_takeReturn_of_idle idle suspect
    have renewed : s.toBlocks.renew l = s.toBlocks.takeReturn l := by
      rw [Blocks.renew_of_suspect live suspect, if_neg (by simpa using fresh)]
    obtain ⟨answered, blocks⟩ := follows (returns live suspect) renewed (state := .voting) (by rw [Blocks.laneState, row])
    refine ⟨answered, ?_⟩
    rw [blocks, row, ← fresh]
  · have marked : s.toBlocks.join l d = (s.toBlocks.setLane l { r with rejoinRequested := true }, .excluded) := by
      rw [Blocks.join_of_present live (by simp [excluded]), excluded]
    have still : (s.toBlocks.setLane l { r with rejoinRequested := true }).laneState l = .excluded := by
      simpa [Blocks.laneState] using excluded
    exact follows marked (Blocks.renew_of_not_member (.inr (.inr still))) still

end Sys2Proof.Machine
end

section
/-! # PROPOSE (02 R19 to R23) -/

namespace Sys2Proof.Machine

namespace Blocks

variable {b : Blocks} {l : Lane} {round : BitVec 16} {entries : List (Nat × Nat)} {e : Option Evaluation}

/-! ## The refusals, in their order -/

theorem propose_of_lockout (lockout : b.device = .lockout) : b.propose l round entries e = (b, .plain .lockout) := by
  rw [propose, if_pos lockout]

theorem propose_of_suspect (live : b.device ≠ .lockout) (suspect : b.laneState l = .suspect) :
    b.propose l round entries e = (b, .plain .rejoining) := by
  rw [propose, if_neg live, if_pos suspect]

theorem propose_of_not_voting (live : b.device ≠ .lockout) (suspect : b.laneState l ≠ .suspect)
    (other : b.laneState l ≠ .voting) : b.propose l round entries e = (b, .plain .notVoting) := by
  rw [propose, if_neg live, if_neg suspect, if_pos other]

theorem propose_of_idle (live : b.device ≠ .lockout) (idle : b.device ≠ .running) (voting : b.laneState l = .voting) :
    b.propose l round entries e = (b, .plain .notRunning) := by
  rw [propose, if_neg live, if_neg (by simp [voting]), if_neg (by simp [voting]), if_pos idle]

/-- From a VOTING lane in RUNNING the round number is looked at first. -/
theorem propose_of_voting (running : b.device = .running) (voting : b.laneState l = .voting) :
    b.propose l round entries e =
      if round + 1 = b.vote.nextRound then (b, .withRound .late b.vote.nextRound)
      else if round ≠ b.vote.nextRound then (b, .withRound .round b.vote.nextRound)
      else if b.vote.proposers.has l = true then (b, .plain .alreadyProposed)
      else match checkEntries b.badProposal 0 [] entries with
        | .inl i => (b, .badEntry i)
        | .inr good => ((b.storeProposal l good).closeIfComplete e, .withRound .accepted b.vote.nextRound) := by
  rw [propose, if_neg (by simp [running]), if_neg (by simp [voting]), if_neg (by simp [voting]),
    if_neg (by simp [running])]
  exact if_congr eq_sub_iff_add_eq rfl rfl

theorem propose_of_open (running : b.device = .running) (voting : b.laneState l = .voting)
    (fresh : b.vote.proposers.has l = false) : b.propose l b.vote.nextRound entries e =
      match checkEntries b.badProposal 0 [] entries with
      | .inl i => (b, .badEntry i)
      | .inr good => ((b.storeProposal l good).closeIfComplete e, .withRound .accepted b.vote.nextRound) := by
  have current : b.vote.nextRound + 1 ≠ b.vote.nextRound := by
    simp
  rw [propose_of_voting running voting, if_neg current, if_neg (by simp), if_neg (by simp [fresh])]

theorem badProposal_iff (b : Blocks) (c : Channel) (v : Nat) : b.badProposal c v = true ↔
    b.channelType c = .unused ∨ (b.channelType c = .discrete ∧ 1 < v) ∨ (b.channelType c = .level ∧ 1000 < v) := by
  cases type : b.channelType c <;> simp [badProposal, type]

theorem badAt_badProposal_iff (b : Blocks) (entries : List (Nat × Nat)) (j : Nat) :
    BadAt b.badProposal [] entries j ↔ ∃ n v, entries[j]? = some (n, v) ∧
      (63 < n ∨ (∃ k w, k < j ∧ entries[k]? = some (n, w)) ∨
        ∃ c : Channel, c.val = n ∧ (b.channelType c = .unused ∨ (b.channelType c = .discrete ∧ 1 < v) ∨
          (b.channelType c = .level ∧ 1000 < v))) := by
  simp only [BadAt, badProposal_iff, List.not_mem_nil, false_or]

end Blocks

/-- The blocks and the answer of a PROPOSE: the vote engine's, then the renewal (10 R171). -/
theorem exec_propose {s : State} {l : Lane} {q : Byte} {p : List Byte} {round : BitVec 16} {entries : List (Nat × Nat)}
    (takes : Takes s l q p) (parsed : parsePropose p = some (round, entries)) (e : Option Evaluation) :
    ∃ t, exec (.propose l q p e) s = .next t ∧ OutsideKept s t ∧ t.staging = s.staging ∧
      ∀ {b : Blocks} {answer : Blocks.ProposeAnswer}, s.toBlocks.propose l round entries e = (b, answer) →
        t.toBlocks = b.renew l ∧ Answered s t l 0x04#8 q answer.outcome answer.payload false := by
  have served : handlePropose l p e s.toBlocks s.staging = unchanged ((s.toBlocks.propose l round entries e).1.renew l)
      s.staging (s.toBlocks.propose l round entries e).2.outcome (s.toBlocks.propose l round entries e).2.payload := by
    simp only [handlePropose, parsed]
  obtain ⟨outside, blocks, staging, answered⟩ := receive_answered (k := 0x04#8) takes served
  refine ⟨_, rfl, outside, staging, fun proposes => ?_⟩
  rw [proposes] at blocks answered
  exact ⟨blocks, answered⟩

/-- Settles O32: the refusals in the order in which the vote engine makes them. -/
theorem proposeRefusals : Obligations.ProposeRefusals := by
  intro s l q p round entries e takes parsed bad
  obtain ⟨t, done, outside, staging, follows⟩ := exec_propose takes parsed e
  refine ⟨t, done, outside, staging, fun lockout => ?_, fun live suspect => ?_, fun live suspect other => ?_,
    fun live idle voting => ?_, fun running voting => ⟨fun late => ?_, fun other early => ?_, fun current again => ?_,
      fun current fresh i isBad first => ?_⟩⟩
  · obtain ⟨blocks, answered⟩ := follows (Blocks.propose_of_lockout lockout)
    exact ⟨blocks.trans (Blocks.renew_of_lockout lockout), answered⟩
  · exact follows (Blocks.propose_of_suspect live suspect)
  · exact follows (Blocks.propose_of_not_voting live suspect other)
  · exact follows (Blocks.propose_of_idle live idle voting)
  · exact follows ((Blocks.propose_of_voting running voting).trans (if_pos late))
  · exact follows ((Blocks.propose_of_voting running voting).trans (by rw [if_neg early, if_pos other]))
  · subst current
    exact follows ((Blocks.propose_of_voting running voting).trans
      (by rw [if_neg (by simp), if_neg (by simp), if_pos again]))
  · subst current
    have check : Blocks.checkEntries s.badProposal 0 [] entries = .inl (0 + i) :=
      Blocks.checkEntries_of_first_bad ((s.badAt_badProposal_iff entries i).mpr isBad)
        fun j before => mt (s.badAt_badProposal_iff entries j).mp (first j before)
    rw [Nat.zero_add] at check
    exact follows ((Blocks.propose_of_open running voting fresh).trans (by rw [check]))

/-! ## The proposal stored (02 R18, R19) -/

namespace Blocks

variable {b : Blocks} {l : Lane} {good : List (Channel × Nat)}

theorem proposalRow_eq_some_iff (different : (good.map Prod.fst).Nodup) (c : Channel) (v : Nat) :
    (proposalRow good).row c = some v ↔ (c, v) ∈ good := by
  refine ⟨mem_of_proposalRow, fun listed => ?_⟩
  induction good with
  | nil => cases listed
  | cons e rest ih =>
    obtain ⟨d, w⟩ := e
    rw [List.map_cons, List.nodup_cons] at different
    obtain ⟨alone, different⟩ := different
    rcases List.mem_cons.mp listed with first | later
    · cases first
      exact Table.row_put_self ..
    · have other : d ≠ c := fun same => alone (List.mem_map.mpr ⟨_, later, same.symm⟩)
      rw [proposalRow, Table.row_put_of_ne _ other]
      exact ih different later

/-- The row of lane `l` stored in the open round: the first proposal starts the deadline, a later one leaves it
(02 R18). -/
def proposed (b : Blocks) (l : Lane) (row : ProposalRow) : Blocks :=
  { b with vote := { b.vote with
      proposals := b.vote.proposals.put l row
      proposers := b.vote.proposers.insert l
      openRound := .collecting
      deadline := if b.vote.openRound = .idle then some b.config.deadline else b.vote.deadline } }

theorem storeProposal_eq (open_ : b.vote.openRound ≠ .none) (l : Lane) (good : List (Channel × Nat)) :
    b.storeProposal l good = b.proposed l (proposalRow good) := by
  obtain ⟨_, _, _, ⟨_, openRound, _, _, _, _⟩, _, _, _, _, _, _⟩ := b
  cases openRound
  case none => exact absurd rfl open_
  all_goals rfl

/-- Entries on different channels, each in the domain of its channel, are stored as they are listed. -/
theorem checkEntries_of_allowed {entries : List (Nat × Nat)}
    (allowed : ∀ n v, (n, v) ∈ entries → ∃ c : Channel, c.val = n ∧
      ((b.channelType c = .discrete ∧ v ≤ 1) ∨ (b.channelType c = .level ∧ v ≤ 1000)))
    (different : (entries.map Prod.fst).Nodup) : ∃ good, checkEntries b.badProposal 0 [] entries = .inr good ∧
      ∀ c v, (proposalRow good).row c = some v ↔ (c.val, v) ∈ entries := by
  have none_bad (j : Nat) : ¬ BadAt b.badProposal [] entries j := by
    rw [badAt_badProposal_iff]
    rintro ⟨n, v, at_j, refused⟩
    obtain ⟨c, rfl, domain⟩ := allowed n v (List.mem_of_getElem? at_j)
    rcases refused with large | ⟨k, w, before, at_k⟩ | ⟨d, same, bad⟩
    · omega
    · have inRange : j < entries.length := (List.getElem?_eq_some_iff.mp at_j).1
      have named : (entries.map Prod.fst)[k]? = (entries.map Prod.fst)[j]? := by simp [at_j, at_k]
      have same := (List.getElem?_inj (by simp; omega) different).mp named
      omega
    · obtain rfl : d = c := Fin.ext same
      rcases domain with ⟨type, small⟩ | ⟨type, small⟩
      · simp only [type, reduceCtorEq, false_or, true_and, false_and, or_false] at bad
        omega
      · simp only [type, reduceCtorEq, false_or, true_and, false_and] at bad
        omega
  obtain ⟨good, check, listed, once, -⟩ := checkEntries_of_none_bad (i := 0) none_bad
  refine ⟨good, check, fun c v => ?_⟩
  rw [proposalRow_eq_some_iff once, ← listed, mem_numbered]

theorem complete_iff (b : Blocks) :
    b.complete = true ↔ ∀ m, b.laneState m = .voting → b.vote.proposers.has m = true := by
  have without (m : Lane) : (b.votingLanes &&& ~~~b.vote.proposers).has m = true ↔
      b.laneState m = .voting ∧ b.vote.proposers.has m = false := by
    have inverse : (~~~b.vote.proposers).has m = !b.vote.proposers.has m := by
      simp [IndexSet.has]
    rw [IndexSet.has_and, inverse]
    simp [votingLanes]
  rw [complete, decide_eq_true_eq, IndexSet.eq_zero_iff]
  refine forall_congr' fun m => ?_
  rw [← Bool.not_eq_true, without, not_and, Bool.not_eq_false]

end Blocks

/-- A proposal accepted from a lane that has not proposed in the open round. -/
theorem Blocks.propose_of_allowed {b : Blocks} {l : Lane} {entries : List (Nat × Nat)} (running : b.device = .running)
    (voting : b.laneState l = .voting) (fresh : b.vote.proposers.has l = false) (open_ : b.vote.openRound ≠ .none)
    (allowed : ∀ n v, (n, v) ∈ entries → ∃ c : Channel, c.val = n ∧
      ((b.channelType c = .discrete ∧ v ≤ 1) ∨ (b.channelType c = .level ∧ v ≤ 1000)))
    (different : (entries.map Prod.fst).Nodup) : ∃ row : ProposalRow, (∀ c v, row.row c = some v ↔ (c.val, v) ∈ entries) ∧
      ∀ e, b.propose l b.vote.nextRound entries e
        = ((b.proposed l row).closeIfComplete e, .withRound .accepted b.vote.nextRound) := by
  obtain ⟨good, check, stored⟩ := checkEntries_of_allowed allowed different
  refine ⟨proposalRow good, stored, fun e => ?_⟩
  rw [propose_of_open running voting fresh, check, ← storeProposal_eq open_]

/-- Settles O33: the proposal stored, the round left open by the lane that has not proposed, and the lease renewed. -/
theorem proposalIsStored : Obligations.ProposalIsStored := by
  intro s l m q p entries e takes parsed running voting fresh open_ other votes waits allowed different
  obtain ⟨row, stored, proposes⟩ := Blocks.propose_of_allowed running voting fresh open_ allowed different
  obtain ⟨t, done, outside, staging, follows⟩ := exec_propose takes parsed e
  obtain ⟨blocks, answered⟩ := follows (proposes e)
  have incomplete : (s.toBlocks.proposed l row).closeIfComplete e = s.toBlocks.proposed l row := by
    refine if_neg fun ⟨_, complete⟩ => ?_
    have listed := (Blocks.complete_iff _).mp complete m votes
    simp [Blocks.proposed, IndexSet.has_insert, waits, Ne.symm other] at listed
  have live : (s.toBlocks.proposed l row).device ≠ .lockout := by simp [Blocks.proposed, running]
  rw [incomplete, Blocks.renew_of_member live (.inr voting)] at blocks
  refine ⟨t, done, outside, staging, answered, ?_⟩
  rw [blocks]
  refine ⟨fun c v => ?_, fun k apart => ?_, fun k => ?_, rfl, rfl, rfl, rfl, rfl, rfl, rfl, rfl, rfl, rfl, rfl, rfl, rfl⟩
  · simp only [Blocks.startLease_kept, Blocks.proposed, Table.row_put_self, stored]
  · exact Table.row_put_of_ne _ (Ne.symm apart) row
  · simp only [Blocks.startLease_kept, Blocks.proposed, IndexSet.has_insert, eq_comm (a := l)]

end Sys2Proof.Machine
end

section
/-! # A lane leaves (04 R59, R62 to R64, R73, 06 R105) -/

namespace Sys2Proof.Machine

/-! ## Readers under a posting -/

/-- A posting makes no lane a reader and takes no lane from the readers (09 R152, R153). -/
theorem NoticeUnit.isSome_readers_post (n : NoticeUnit) (stamp : BitVec 16) (body : NoticeBody) (l : Lane) :
    ((n.post stamp body).readers.row l).isSome = (n.readers.row l).isSome := by
  unfold NoticeUnit.post
  split
  · rfl
  · unfold NoticeUnit.overflow
    split
    · rfl
    · simp [NoticeUnit.append]

theorem isSome_readers_posted (stamp : BitVec 16) (n : NoticeUnit) (bodies : List NoticeBody) (l : Lane) :
    ((posted stamp n bodies).readers.row l).isSome = (n.readers.row l).isSome := by
  induction bodies generalizing n with
  | nil => rfl
  | cons body rest ih => rw [posted_cons, ih, n.isSome_readers_post]

theorem readers_posted_of_none {n : NoticeUnit} {l : Lane} (none : n.readers.row l = none) (stamp : BitVec 16)
    (bodies : List NoticeBody) : (posted stamp n bodies).readers.row l = Option.none := by
  have absent := isSome_readers_posted stamp n bodies l
  rw [none] at absent
  exact Option.not_isSome_iff_eq_none.mp (by simp [absent])

theorem NoticeUnit.readers_leaveReader (n : NoticeUnit) (l : Lane) : (n.leaveReader l).readers.row l = none := by
  rw [leaveReader_eq, readers_setReader, Table.row_put_self]

/-! ## Ballots that lose a supporter -/

/-- The ballots without the support of lane `l`, whether or not it leaves them any. -/
def ballotsLeft (ballots : List Ballot) (l : Lane) : List Ballot :=
  ballots.map fun x => { x with supporters := x.supporters.erase l }

/-- The ballots that keep a supporter. -/
def ballotsStill (ballots : List Ballot) (l : Lane) : List Ballot :=
  (ballotsLeft ballots l).filter fun x => decide (x.supporters ≠ 0)

/-- BALLOT_ENDED of each ballot that loses its last supporter, in creation order (06 R105). -/
def abandonedNotices (ballots : List Ballot) (l : Lane) : List NoticeBody :=
  ((ballotsLeft ballots l).filter fun x => decide (x.supporters = 0)).map
    fun x => .ballotEnded x.slot x.action .abandoned x.supporters

theorem not_has_of_ballotsStill {ballots : List Ballot} {l : Lane} {x : Ballot} (h : x ∈ ballotsStill ballots l) :
    x.supporters.has l = false := by
  obtain ⟨y, -, rfl⟩ := List.mem_map.mp (List.mem_filter.mp h).1
  simp [IndexSet.has_erase]

namespace Blocks

variable {b : Blocks} {l : Lane} {r : LaneRecord}

theorem removeSupporter_all (b : Blocks) (l : Lane) : b.removeSupporter l (fun _ => true) = { b with
    ballots := ballotsStill b.ballots l
    notices := posted b.vote.lastEnded b.notices (abandonedNotices b.ballots l) } := by
  have emptied (x : Ballot) : (x.supporters == 0) = decide (x.supporters = 0) := beq_eq_decide ..
  have kept (x : Ballot) : (x.supporters != 0) = decide (x.supporters ≠ 0) := by rw [bne, emptied, decide_not]
  simp only [removeSupporter, postAll_eq, if_true, emptied, kept]
  rfl

/-! ## The record of a lane that leaves -/

/-- A VOTING lane goes SUSPECT: its vetoes and its place among the readers stand (04 R62, R73). -/
theorem moveLane_suspect (voting : b.laneState l = .voting) (suspect : r.state = .suspect) (cause : MemberCause)
    (recompute : Bool) : b.moveLane l r cause recompute = { b with
      lanes := b.lanes.put l r
      ballots := ballotsStill b.ballots l
      notices := posted b.vote.lastEnded b.notices
        (.memberChange l .voting .suspect cause :: abandonedNotices b.ballots l) } := by
  simp [moveLane, vetoStep, losesVetoes, readerStep, supporterStep, suspect, voting, removeSupporter_all]

/-- The blocks in which lane `l` holds record `r` and no veto, before the drives are recomputed. -/
def vetoless (b : Blocks) (l : Lane) (r : LaneRecord) : Blocks := (b.setLane l r).dropVetoes l

/-- A VOTING or LINKED lane goes ABSENT (04 R59, R73). -/
theorem moveLane_absent_of_supporter (before : b.laneState l = .voting ∨ b.laneState l = .linked)
    (absent : r.state = .absent) (cause : MemberCause) : b.moveLane l r cause true = { (b.vetoless l r).refreshOutputs with
      ballots := ballotsStill b.ballots l
      notices := posted b.vote.lastEnded (b.notices.leaveReader l)
        (.memberChange l (b.laneState l) .absent cause :: abandonedNotices b.ballots l) } := by
  have moved : b.moveLane l r cause true
      = (({ (b.vetoless l r).refreshOutputs with notices := b.notices.leaveReader l } : Blocks).post
        (.memberChange l (b.laneState l) .absent cause)).removeSupporter l (fun _ => true) := by
    unfold moveLane
    rw [absent]
    exact if_pos (by simpa using before)
  rw [moved, removeSupporter_all]
  rfl

/-- Any other lane goes ABSENT: no ballot is touched. -/
theorem moveLane_absent_of_other (voting : b.laneState l ≠ .voting) (linked : b.laneState l ≠ .linked)
    (absent : r.state = .absent) (cause : MemberCause) : b.moveLane l r cause true = { (b.vetoless l r).refreshOutputs with
      notices := (b.notices.leaveReader l).post b.vote.lastEnded (.memberChange l (b.laneState l) .absent cause) } := by
  unfold moveLane
  rw [absent]
  exact if_neg (by simp [voting, linked])

/-- A SUSPECT lane goes EXCLUDED (04 R64, R73). -/
theorem moveLane_excluded (suspect : b.laneState l = .suspect) (excluded : r.state = .excluded) (cause : MemberCause) :
    b.moveLane l r cause true = { (b.vetoless l r).refreshOutputs with
      notices := b.notices.post b.vote.lastEnded (.memberChange l .suspect .excluded cause) } := by
  unfold moveLane
  rw [excluded, suspect]
  rfl

end Blocks

end Sys2Proof.Machine
end

section
/-! # LEAVE, and the expiries of membership and ballots -/

namespace Sys2Proof.Machine

namespace Blocks

variable {b : Blocks} {l : Lane} {r : LaneRecord} {e : Option Evaluation}

/-! ## A lane event with no consequence for the round (04 R73, R74) -/

theorem laneEvent_of_other (other : b.laneState l ≠ .voting) (cause : MemberCause) :
    b.laneEvent l r cause e = b.moveLane l r cause true := if_neg other

theorem laneEvent_of_voting (voting : b.laneState l = .voting) (cause : MemberCause) :
    b.laneEvent l r cause e = ((b.moveLane l r cause true).retest e).reportCount := if_pos voting

/-- One lane fewer is VOTING after the move of a VOTING lane. -/
theorem votingCount_moveLane (voting : b.laneState l = .voting) (leaves : r.state ≠ .voting) (cause : MemberCause)
    (recompute : Bool) : (b.moveLane l r cause recompute).votingCount + 1 = b.votingCount :=
  (votingCount_of_joined (b := b.moveLane l r cause recompute) (l := l) (by simpa using leaves) voting
    fun m other => by simp [Ne.symm other]).symm

theorem hasQuorum_moveLane_iff (voting : b.laneState l = .voting) (leaves : r.state ≠ .voting) (cause : MemberCause)
    (recompute : Bool) : (b.moveLane l r cause recompute).hasQuorum = true ↔ b.config.quorum < b.votingCount := by
  have config : (b.moveLane l r cause recompute).config = b.config := config_congr (by simp)
  have count := votingCount_moveLane voting leaves cause recompute
  rw [hasQuorum_iff, config]
  omega

theorem retest_of_not_collecting (idle : b.vote.openRound ≠ .collecting) : b.retest e = b :=
  if_neg fun ⟨collecting, _⟩ => idle collecting

theorem retest_of_incomplete (incomplete : b.complete ≠ true) : b.retest e = b :=
  if_neg fun ⟨_, _, complete⟩ => incomplete complete

theorem reportCount_of_quorate (running : b.device = .running) (quorate : b.hasQuorum = true) : b.reportCount = b := by
  simp only [reportCount, running, quorate, if_true]

end Blocks

/-- Where a VOTING lane leaves quietly its event is its move alone. -/
theorem laneEvent_of_quiet {s : State} {l : Lane} {r : LaneRecord} (voting : s.laneState l = .voting)
    (quiet : LeavesQuietly s l) (leaves : r.state ≠ .voting) (cause : MemberCause) (e : Option Evaluation) :
    s.toBlocks.laneEvent l r cause e = s.toBlocks.moveLane l r cause true := by
  have quorum := Blocks.hasQuorum_moveLane_iff voting leaves cause true
  have vote : (s.toBlocks.moveLane l r cause true).vote = s.vote := by simp
  have device : (s.toBlocks.moveLane l r cause true).device = s.device := by simp
  rw [Blocks.laneEvent_of_voting voting]
  rcases quiet with ⟨safeHold, closed⟩ | ⟨gathering, closed, few⟩ | ⟨running, enough, open_⟩
  · rw [Blocks.retest_of_not_collecting (by simp [closed]), Blocks.reportCount_of_safeHold (device.trans safeHold)]
  · rw [Blocks.retest_of_not_collecting (by simp [closed]), Blocks.reportCount_of_gathering (device.trans gathering),
      if_neg (mt quorum.mp (Nat.not_lt.mpr few))]
  · have quorate := quorum.mpr enough
    have stands : (s.toBlocks.moveLane l r cause true).retest e = s.toBlocks.moveLane l r cause true := by
      rcases open_ with idle | ⟨m, other, votes, waits⟩
      · exact Blocks.retest_of_not_collecting (by rwa [vote])
      · refine Blocks.retest_of_incomplete fun complete => ?_
        have proposed := (Blocks.complete_iff _).mp complete m (by simpa [Ne.symm other] using votes)
        rw [vote, waits] at proposed
        cases proposed
    rw [stands, Blocks.reportCount_of_quorate (device.trans running) quorate]

/-! ## LEAVE (04 R59) -/

namespace Blocks

variable {b : Blocks} {l : Lane} {e : Option Evaluation}

theorem leave_of_lockout (lockout : b.device = .lockout) : b.leave l e = (b, .lockout) := by
  simp only [leave, lockout]

theorem leave_of_live (live : b.device ≠ .lockout) : b.leave l e =
    match b.laneState l with
    | .absent => (b, .accepted)
    | .excluded => (b, .excluded)
    | _ => (b.laneEvent l (absentRecord (b.lanes.row l)) .left e, .accepted) := by
  unfold leave
  cases state : b.laneState l
  all_goals
    cases device : b.device
    case lockout => exact absurd device live
    all_goals rfl

end Blocks

theorem exec_leave {s : State} {l : Lane} {q : Byte} (takes : Takes s l q []) (e : Option Evaluation) :
    ∃ t, exec (.leave l q [] e) s = .next t ∧ OutsideKept s t ∧ t.staging = s.staging ∧
      ∀ {b : Blocks} {o : Outcome}, s.toBlocks.leave l e = (b, o) → t.toBlocks = b ∧ Answered s t l 0x02#8 q o [] false := by
  obtain ⟨outside, blocks, staging, answered⟩ := receive_answered (k := 0x02#8) (handle := handleLeave l [] e) takes rfl
  refine ⟨_, rfl, outside, staging, fun leaves => ?_⟩
  rw [leaves] at blocks answered
  exact ⟨blocks, answered⟩

/-- What the move of a lane to ABSENT leaves (04 R59, R73). -/
theorem moved_absent_follows {t : State} {b : Blocks} {l : Lane} {r : LaneRecord} {cause : MemberCause}
    (absent : r.state = .absent) (blocks : t.toBlocks = b.moveLane l r cause true) :
    t.lanes = b.lanes.put l r ∧ t.output.vetoes = b.output.vetoes.put l 0 ∧ t.notices.readers.row l = none ∧
    (b.laneState l = .linked ∨ b.laneState l = .voting → ∀ x ∈ t.ballots, x.supporters.has l = false) ∧
    (b.laneState l = .candidate ∨ b.laneState l = .suspect → t.ballots = b.ballots) ∧
    (∀ c, t.fault c = b.fault c) ∧ t.vote = b.vote ∧ t.device = b.device ∧ t.active = b.active ∧
    t.pendingRecord = b.pendingRecord ∧ t.lockoutRecord = b.lockoutRecord ∧ t.failn = b.failn := by
  have vetoes := b.vetoes_moveLane l r cause true
  rw [absent, if_pos (by decide)] at vetoes
  have fault (c : Channel) := b.fault_moveLane l r cause true c
  obtain ⟨device, record, failn, vote, lanes, active, pending⟩ := b.moveLane_kept l r cause true
  rw [← blocks] at vetoes device record failn vote lanes active pending
  simp only [← blocks] at fault
  by_cases supports : b.laneState l = .voting ∨ b.laneState l = .linked
  · rw [Blocks.moveLane_absent_of_supporter supports absent] at blocks
    refine ⟨lanes, vetoes, ?_, fun _ x listed => ?_, fun other => ?_, fault, vote, device, active, pending, record, failn⟩
    · rw [blocks]
      exact readers_posted_of_none (NoticeUnit.readers_leaveReader ..) _ _
    · rw [blocks] at listed
      exact not_has_of_ballotsStill listed
    · rcases supports with state | state <;> simp [state] at other
  · obtain ⟨voting, linked⟩ := not_or.mp supports
    rw [Blocks.moveLane_absent_of_other voting linked absent] at blocks
    refine ⟨lanes, vetoes, ?_, fun other => absurd other.symm supports, fun _ => by rw [blocks]; rfl, fault, vote, device,
      active, pending, record, failn⟩
    rw [blocks]
    exact readers_posted_of_none (NoticeUnit.readers_leaveReader ..) _ [_]

/-- Settles O29: LEAVE by state, its effect the move of the lane to ABSENT. -/
theorem leaveMakesAbsent : Obligations.LeaveMakesAbsent := by
  intro s l q e takes
  obtain ⟨t, done, outside, staging, follows⟩ := exec_leave takes e
  refine ⟨fun lockout => ?_, fun live absent => ?_, fun live excluded => ?_, fun takesPart => ?_⟩
  · obtain ⟨blocks, answered⟩ := follows (Blocks.leave_of_lockout lockout)
    exact ⟨t, done, ⟨blocks, staging, outside⟩, answered⟩
  · obtain ⟨blocks, answered⟩ := follows ((Blocks.leave_of_live live).trans (by rw [absent]))
    exact ⟨t, done, ⟨blocks, staging, outside⟩, answered⟩
  · obtain ⟨blocks, answered⟩ := follows ((Blocks.leave_of_live live).trans (by rw [excluded]))
    exact ⟨t, done, ⟨blocks, staging, outside⟩, answered⟩
  · have moves : s.toBlocks.leave l e
        = (s.toBlocks.moveLane l (Blocks.absentRecord (s.lanes.row l)) .left true, .accepted) := by
      rcases takesPart with ⟨live, linked | candidate | suspect⟩ | ⟨voting, quiet⟩
      · rw [Blocks.leave_of_live live, linked, ← Blocks.laneEvent_of_other (e := e) (by simp [linked])]
      · rw [Blocks.leave_of_live live, candidate, ← Blocks.laneEvent_of_other (e := e) (by simp [candidate])]
      · rw [Blocks.leave_of_live live, suspect, ← Blocks.laneEvent_of_other (e := e) (by simp [suspect])]
      · have live : s.device ≠ .lockout := by
          rcases quiet with ⟨device, -⟩ | ⟨device, -⟩ | ⟨device, -⟩ <;> simp [device]
        rw [Blocks.leave_of_live live, voting, ← laneEvent_of_quiet voting quiet (by simp [Blocks.absentRecord]) .left e]
    obtain ⟨blocks, answered⟩ := follows moves
    obtain ⟨lanes, vetoes, readers, supports, others, fault, vote, device, active, pending, record, failn⟩ :=
      moved_absent_follows rfl blocks
    exact ⟨t, done, answered, lanes, vetoes, readers, supports, others, fault, vote, device, active, pending, record,
      failn, staging, outside⟩

/-! ## The expiries -/

namespace Blocks

variable {b : Blocks} {l : Lane} {e : Option Evaluation}

theorem leaseExpires_of_candidate (candidate : b.laneState l = .candidate) :
    b.leaseExpires l e = b.moveLane l (absentRecord (b.lanes.row l)) .leaseExpired true := by
  have state : (b.lanes.row l).state = .candidate := candidate
  rw [leaseExpires]
  simp only [state]
  exact laneEvent_of_other (by simp [candidate]) .leaseExpired

/-- The record of a VOTING lane whose lease expires (04 R62). -/
def suspected (b : Blocks) (l : Lane) : LaneRecord :=
  { b.lanes.row l with state := .suspect, lease := none, grace := some b.config.grace, returnPending := false }

theorem leaseExpires_of_voting (voting : b.laneState l = .voting) :
    b.leaseExpires l e = b.laneEvent l (b.suspected l) .leaseExpired e := by
  have state : (b.lanes.row l).state = .voting := voting
  rw [leaseExpires]
  simp only [state]
  rfl

theorem leaseExpires_of_returning (suspect : b.laneState l = .suspect) (returns : (b.lanes.row l).returnPending = true) :
    b.leaseExpires l e
      = b.setLane l { b.lanes.row l with returnPending := false, lease := none, grace := some b.config.grace } := by
  have state : (b.lanes.row l).state = .suspect := suspect
  rw [leaseExpires]
  simp only [state, returns, if_true]

theorem graceExpires_of_suspect (suspect : b.laneState l = .suspect) (waits : (b.lanes.row l).returnPending = false) :
    b.graceExpires l = b.moveLane l (excludedRecord (b.lanes.row l)) .graceExpired true := by
  have state : (b.lanes.row l).state = .suspect := suspect
  rw [graceExpires]
  simp only [state, waits, and_self, if_true]
  exact laneEvent_of_other (by simp [suspect]) .graceExpired

end Blocks

theorem exec_lifetime_due {s : State} {x : Ballot} (law : BallotLaw s) (listed : x ∈ s.ballots)
    (due : s.timer (.lifetime x.slot) = some 0) : exec (.ballotLifetimeExpiry x.slot) s
      = .next (s.setBlocks (s.toBlocks.ballotExpires x)).updateAttn := by
  have found := ballotIn_of_mem ((ballotLaw_iff s).mp law) listed
  have expired : s.expire none (.lifetime x.slot) = s.setBlocks (s.toBlocks.ballotExpires x) := by
    rw [State.expire, found]
  exact congrArg _ ((s.expireNow_due (.lifetime x.slot) none due).trans (by rw [expired]))

/-- Settles O30: each expiry is the move of its lane, or the end of its ballot. -/
theorem membershipAndBallotExpiries : Obligations.MembershipAndBallotExpiries := by
  refine ⟨fun s l e => ⟨fun due candidate => ?_, fun due voting quiet => ?_, fun due suspect returns => ?_,
    fun due suspect waits => ?_⟩, fun s x law listed due => ?_⟩
  · obtain ⟨lanes, vetoes, readers, -, others, -, vote, device, active, -⟩ :=
      moved_absent_follows (t := (s.setBlocks (s.toBlocks.leaseExpires l e)).updateAttn) rfl
        (Blocks.leaseExpires_of_candidate candidate)
    exact ⟨_, exec_lease_due due e, ⟨rfl, rfl, rfl⟩, rfl, vote, device, others (.inl candidate), active, lanes, vetoes,
      readers⟩
  · have blocks : (s.setBlocks (s.toBlocks.leaseExpires l e)).updateAttn.toBlocks
        = s.toBlocks.moveLane l (s.toBlocks.suspected l) .leaseExpired true :=
      (Blocks.leaseExpires_of_voting voting).trans (laneEvent_of_quiet voting quiet (by simp [Blocks.suspected]) _ e)
    rw [Blocks.moveLane_suspect voting rfl] at blocks
    refine ⟨_, exec_lease_due due e, ⟨rfl, rfl, rfl⟩, rfl, ?_⟩
    rw [blocks]
    exact ⟨rfl, rfl, rfl, rfl, rfl, isSome_readers_posted .., fun x listed => not_has_of_ballotsStill listed⟩
  · exact ⟨_, exec_lease_due due e, ⟨rfl, rfl, rfl⟩, rfl, Blocks.leaseExpires_of_returning suspect returns⟩
  · have blocks : (s.setBlocks (s.toBlocks.graceExpires l)).updateAttn.toBlocks
        = s.toBlocks.moveLane l (Blocks.excludedRecord (s.lanes.row l)) .graceExpired true :=
      Blocks.graceExpires_of_suspect suspect waits
    rw [Blocks.moveLane_excluded suspect rfl] at blocks
    refine ⟨_, exec_grace_due due, ⟨rfl, rfl, rfl⟩, rfl, ?_⟩
    rw [blocks]
    exact ⟨rfl, rfl, rfl, rfl, rfl, rfl, rfl, rfl⟩
  · refine ⟨_, exec_lifetime_due law listed due, ⟨rfl, rfl, rfl⟩, rfl, ?_⟩
    have rest : s.ballots.filter (fun y => y.slot != x.slot) = s.ballots.filter (fun y => decide (y.slot ≠ x.slot)) :=
      List.filter_congr fun y _ => by simp [bne, Bool.beq_eq_decide_eq]
    rw [← rest]
    rfl

end Sys2Proof.Machine
end

section
/-! # Admissions, and the entry to SAFE_HOLD (04 R65, 05 R82) -/

namespace Sys2Proof.Machine

namespace Blocks

variable {b : Blocks} {l : Lane}

/-! ## Admissions -/

/-- The record a ready lane is admitted with (04 R65); any other lane keeps its own. -/
def admittedRow (b : Blocks) (m : Lane) : LaneRecord :=
  if b.readyForAdmission m = true then { b.lanes.row m with state := .voting, returnPending := false } else b.lanes.row m

/-- The MEMBER_CHANGE of a ready lane's admission. -/
def admissionNotice (b : Blocks) (m : Lane) : Option NoticeBody :=
  if b.laneState m = .candidate then some (.memberChange m .candidate .voting .admitted)
  else if b.readyForAdmission m = true then some (.memberChange m .suspect .voting .returned) else none

/-- The MEMBER_CHANGEs of the admissions, in ascending lane order. -/
def admissionNotices (b : Blocks) : List NoticeBody := (List.finRange 4).filterMap b.admissionNotice

theorem admissionNotice_of_not_ready (waits : b.readyForAdmission l ≠ true) : b.admissionNotice l = none := by
  have other : b.laneState l ≠ .candidate := fun candidate => waits ((b.readyForAdmission_iff l).mpr (.inl candidate))
  rw [admissionNotice, if_neg other, if_neg waits]

/-- One lane looked at: its record and its notice, and nothing else. -/
theorem admitLane_eq (b : Blocks) (l : Lane) : b.admitLane l = { b with
    lanes := b.lanes.put l (b.admittedRow l)
    notices := posted b.vote.lastEnded b.notices (b.admissionNotice l).toList } := by
  by_cases ready : b.readyForAdmission l = true
  · rcases (b.readyForAdmission_iff l).mp ready with candidate | ⟨suspect, returns⟩
    · rw [admitLane_of_candidate candidate, admittedRow, if_pos ready, admissionNotice, if_pos candidate]
      rfl
    · rw [admitLane_of_returning suspect returns, admittedRow, if_pos ready, admissionNotice,
        if_neg (by simp [suspect]), if_pos ready]
      rfl
  · rw [admitLane, if_neg ready, admittedRow, if_neg ready, Table.put_row, admissionNotice_of_not_ready ready]
    rfl

theorem readyForAdmission_congr {d : Blocks} (row : d.lanes.row l = b.lanes.row l) :
    d.readyForAdmission l = b.readyForAdmission l := by
  simp only [readyForAdmission, laneState, row]

theorem admittedRow_congr {d : Blocks} (row : d.lanes.row l = b.lanes.row l) : d.admittedRow l = b.admittedRow l := by
  simp only [admittedRow, readyForAdmission_congr row, row]

theorem admissionNotice_congr {d : Blocks} (row : d.lanes.row l = b.lanes.row l) :
    d.admissionNotice l = b.admissionNotice l := by
  have state : d.laneState l = b.laneState l := congrArg LaneRecord.state row
  simp only [admissionNotice, readyForAdmission_congr row, state]

/-- Several lanes looked at in turn, each once. -/
theorem foldl_admitLane_eq {ls : List Lane} (once : ls.Nodup) (b : Blocks) : ls.foldl admitLane b = { b with
    lanes := Table.build fun m => if m ∈ ls then b.admittedRow m else b.lanes.row m
    notices := posted b.vote.lastEnded b.notices (ls.filterMap b.admissionNotice) } := by
  induction ls generalizing b with
  | nil => simp
  | cons l rest ih =>
    obtain ⟨alone, once⟩ := List.nodup_cons.mp once
    have row {m : Lane} (other : m ≠ l) : (b.admitLane l).lanes.row m = b.lanes.row m := by
      rw [admitLane_eq, Table.row_put_of_ne _ (Ne.symm other)]
    have later {m : Lane} (listed : m ∈ rest) : m ≠ l := fun same => alone (same ▸ listed)
    have notices : rest.filterMap (b.admitLane l).admissionNotice = rest.filterMap b.admissionNotice :=
      List.filterMap_congr fun m listed => admissionNotice_congr (row (later listed))
    have lanes : (Table.build fun m => if m ∈ rest then (b.admitLane l).admittedRow m else (b.admitLane l).lanes.row m)
        = Table.build fun m => if m ∈ l :: rest then b.admittedRow m else b.lanes.row m := by
      refine Table.ext_rows fun m => ?_
      rw [Table.row_build, Table.row_build]
      by_cases same : m = l
      · subst same
        rw [if_neg alone, if_pos List.mem_cons_self, admitLane_eq, Table.row_put_self]
      · rw [admittedRow_congr (row same), row same]
        simp [same]
    rw [List.foldl_cons, ih once, notices, lanes, admitLane_eq, ← posted_append]
    rw [List.filterMap_cons]
    cases b.admissionNotice l <;> rfl

theorem admitReady_eq (b : Blocks) : b.admitReady = { b with
    lanes := Table.build b.admittedRow
    notices := posted b.vote.lastEnded b.notices b.admissionNotices } := by
  rw [admitReady, foldl_admitLane_eq (List.nodup_finRange 4)]
  simp only [List.mem_finRange, if_true]
  rfl

theorem row_admitReady (b : Blocks) (m : Lane) : b.admitReady.lanes.row m = b.admittedRow m := by
  rw [admitReady_eq, Table.row_build]

/-- After the admissions no lane is ready. -/
theorem readyForAdmission_admitReady (b : Blocks) (m : Lane) : b.admitReady.readyForAdmission m = false := by
  have row := b.row_admitReady m
  by_cases ready : b.readyForAdmission m = true
  · rw [admittedRow, if_pos ready] at row
    have state : b.admitReady.laneState m = .voting := congrArg LaneRecord.state row
    simp only [readyForAdmission, state]
  · rw [admittedRow, if_neg ready] at row
    rw [readyForAdmission_congr row]
    exact Bool.eq_false_iff.mpr ready

/-- With no lane ready the admissions change nothing. -/
theorem admitReady_of_none (none : ∀ m, b.readyForAdmission m = false) : b.admitReady = b := by
  have rows (m : Lane) : b.admittedRow m = b.lanes.row m := by rw [admittedRow, if_neg (by simp [none m])]
  have notices : b.admissionNotices = [] :=
    List.filterMap_eq_nil_iff.mpr fun m _ => admissionNotice_of_not_ready (by simp [none m])
  have lanes : Table.build b.admittedRow = b.lanes := Table.ext_rows fun m => by rw [Table.row_build, rows m]
  rw [admitReady_eq, notices, posted_nil, lanes]

end Blocks

end Sys2Proof.Machine
end

section
/-! # The commit of a round, and the dissent report (02 R27, R35, 04 R67, R68) -/

namespace Sys2Proof.Machine

namespace Blocks

variable {b d : Blocks} {l : Lane}

/-! ## The commit -/

/-- The vote engine a commit leaves: the next round open with an empty table (02 R16, R17, R27). -/
def committedVote (b : Blocks) : VoteEngine :=
  { emptyProposals b.committedInputs.vote with nextRound := b.vote.nextRound + 1, openRound := .idle, deadline := none }

theorem lastEnded_committedVote (b : Blocks) : b.committedVote.lastEnded = b.vote.nextRound := BitVec.add_sub_cancel ..

/-- A commit changes the vote engine, the outputs and the notices, and nothing else. -/
theorem commitRound_eq (b : Blocks) : b.commitRound b.evaluate = { b.committedInputs.refreshOutputs with
    vote := b.committedVote
    notices := posted b.vote.nextRound b.notices (closeNotices b) } := by
  rw [← b.lastEnded_committedVote, ← roundNotices_eq]
  exact postAll_eq ..

theorem commitRound_kept (b : Blocks) : (b.commitRound b.evaluate).lanes = b.lanes ∧
    (b.commitRound b.evaluate).active = b.active ∧ (b.commitRound b.evaluate).ballots = b.ballots ∧
    (b.commitRound b.evaluate).output.vetoes = b.output.vetoes := by
  rw [commitRound_eq]
  exact ⟨rfl, rfl, rfl, rfl⟩

/-- A round judges every channel but the UNUSED ones (02 R28). -/
theorem outcomeOf_eq_notEvaluated_iff (b : Blocks) (c : Channel) :
    b.outcomeOf c = .notEvaluated ↔ b.channelType c = .unused := by
  unfold outcomeOf
  cases b.channelType c with
  | unused => simp
  | discrete =>
    simp only [judgeDiscrete]
    split
    · simp
    · split <;> simp
  | level =>
    simp only [judgeLevel]
    split
    · simp
    · split <;> simp

/-- The record a commit writes to a used channel (02 R35). -/
theorem committedRecord_of_used {c : Channel} (used : b.channelType c ≠ .unused) : b.committedRecord b.evaluate c =
    ⟨resolvedValue b.config.groups b.agreed b.candidate c, b.newHold c, b.newStale c,
      decide (withholdingGroups b.config.groups b.agreed b.candidate c ≠ 0)⟩ := by
  have evaluated := mt (b.outcomeOf_eq_notEvaluated_iff c).mp used
  have withheld (g : GroupSet) : (g != 0) = decide (g ≠ 0) := by rw [bne, beq_eq_decide, decide_not]
  unfold committedRecord
  rw [evaluate_channels]
  simp only [evaluateChannel, withheld]
  cases outcome : b.outcomeOf c with
  | notEvaluated => exact absurd outcome evaluated
  | agreed v => rfl
  | noQuorum => rfl

theorem agreed_committedRecord_of_unused {c : Channel} (unused : b.channelType c = .unused) :
    (b.committedRecord b.evaluate c).agreed = b.agreed c := by
  have outcome := (b.outcomeOf_eq_notEvaluated_iff c).mpr unused
  simp only [committedRecord, evaluate_channels, evaluateChannel, outcome]
  rfl

/-- With one evaluation delivered, a close commits it (02 R27). -/
theorem closeRound_none (b : Blocks) :
    b.closeRound none = (b.commitRound b.evaluate).afterCommit b.evaluate.report := if_pos rfl

/-! ## The report -/

/-- The record a lane has after the strikes and exclusions of a close (04 R67, R68). -/
def reportedRow (b : Blocks) (l : Lane) : LaneRecord :=
  if StruckOut b l then { excludedRecord (b.lanes.row l) with strikes := strikesAfter b l }
  else { b.lanes.row l with strikes := strikesAfter b l }

theorem mem_report (named : b.vote.proposers.has l = true ∧ b.laneState l = .voting) :
    (l, decide (Dissented b l)) ∈ b.evaluate.report := by
  refine List.mem_map.mpr ⟨l, (IndexSet.mem_members ..).mpr ((b.has_inputLanes l).mpr named), ?_⟩
  have dissent : ((List.finRange 64).any fun c => (b.evaluate.channels.row c).dissent.has l) = decide (Dissented b l) := by
    simp only [evaluate_channels, evaluateChannel]
    rw [Bool.eq_iff_iff]
    simp [List.any_eq_true]
  exact congrArg _ dissent

theorem strikes_struckRecord (named : b.vote.proposers.has l = true ∧ b.laneState l = .voting) :
    struckRecord (b.lanes.row l) (decide (Dissented b l)) = { b.lanes.row l with strikes := strikesAfter b l } := by
  rw [strikesAfter, if_pos named, struckRecord]
  simp only [decide_eq_true_eq]

theorem struckOut_iff (named : b.vote.proposers.has l = true ∧ b.laneState l = .voting) :
    StruckOut b l ↔ b.config.strikeThreshold ≤ strikesAfter b l := by
  obtain ⟨proposed, voting⟩ := named
  exact ⟨fun ⟨_, _, reached⟩ => reached, fun reached => ⟨proposed, voting, reached⟩⟩

/-- The lane records after the strikes and exclusions of the close of `b`, applied where the lanes are those of `b`. -/
theorem row_reported (lanes : d.lanes = b.lanes) (active : d.active = b.active) (l : Lane) :
    (d.reported b.evaluate.report).lanes.row l = b.reportedRow l := by
  by_cases named : b.vote.proposers.has l = true ∧ b.laneState l = .voting
  · rw [row_reported_of_mem b.nodup_report (mem_report named), lanes, strikes_struckRecord named, config_congr active,
      reportedRow]
    simp only [struckOut_iff named]
    rfl
  · rw [row_reported_of_not_mem (mt (b.mem_report_fst l).mp named), lanes, reportedRow,
      if_neg fun ⟨proposed, voting, _⟩ => named ⟨proposed, voting⟩, strikesAfter_of_not_reported b l named]

theorem vetoes_reported (lanes : d.lanes = b.lanes) (active : d.active = b.active) (l : Lane) :
    (d.reported b.evaluate.report).output.vetoes.row l = if StruckOut b l then 0 else d.output.vetoes.row l := by
  by_cases named : b.vote.proposers.has l = true ∧ b.laneState l = .voting
  · rw [vetoes_reported_of_mem b.nodup_report (mem_report named), lanes, strikes_struckRecord named, config_congr active]
    simp only [struckOut_iff named]
  · rw [vetoes_reported_of_not_mem (mt (b.mem_report_fst l).mp named),
      if_neg fun ⟨proposed, voting, _⟩ => named ⟨proposed, voting⟩]

end Blocks

end Sys2Proof.Machine
end

section
/-! # What follows the commit of a round (02 R27, 04 R67, R68, 05 R79, R82) -/

namespace Sys2Proof.Machine

namespace Blocks

variable {b d : Blocks} {l : Lane}

/-! ## Strikes -/

theorem foldl_applyStrike_eq (report : List (Lane × Bool)) (d : Blocks) :
    report.foldl applyStrike d = { d with lanes := (report.foldl applyStrike d).lanes } := by
  induction report generalizing d with
  | nil => rfl
  | cons entry rest ih =>
    rw [List.foldl_cons, ih]
    rfl

/-- With no named lane at the threshold nothing is excluded. -/
theorem foldl_excludeAtThreshold_of_none {named : List Lane}
    (below : ∀ l ∈ named, (d.lanes.row l).strikes < d.config.strikeThreshold) : named.foldl excludeAtThreshold d = d := by
  induction named with
  | nil => rfl
  | cons l rest ih =>
    have stays : d.excludeAtThreshold l = d := if_neg (Nat.not_le.mpr (below l List.mem_cons_self))
    rw [List.foldl_cons, stays, ih fun m listed => below m (List.mem_cons_of_mem l listed)]

/-- A close that strikes no lane out changes the strike counts alone. -/
theorem reported_of_none (lanes : d.lanes = b.lanes) (active : d.active = b.active) (none : ∀ m, ¬ StruckOut b m) :
    d.reported b.evaluate.report = { d with lanes := Table.build b.reportedRow } := by
  have below (m : Lane) (listed : m ∈ b.evaluate.report.map Prod.fst) :
      ((b.evaluate.report.foldl applyStrike d).lanes.row m).strikes
        < (b.evaluate.report.foldl applyStrike d).config.strikeThreshold := by
    have named := (b.mem_report_fst m).mp listed
    rw [config_foldl_applyStrike, config_congr active, row_foldl_applyStrike_of_mem b.nodup_report (mem_report named), lanes,
      strikes_struckRecord named]
    exact Nat.not_le.mp (mt (struckOut_iff named).mpr (none m))
  have rows : (b.evaluate.report.foldl applyStrike d).lanes = Table.build b.reportedRow := by
    refine Table.ext_rows fun m => ?_
    have row := row_reported lanes active m
    rwa [reported, foldl_excludeAtThreshold_of_none below, ← Table.row_build b.reportedRow] at row
  rw [reported, foldl_excludeAtThreshold_of_none below, foldl_applyStrike_eq, rows]

/-! ## Exclusions -/

/-- A VOTING lane goes EXCLUDED (04 R68, R73). -/
theorem moveLane_excluded_of_voting {r : LaneRecord} (voting : b.laneState l = .voting) (excluded : r.state = .excluded)
    (cause : MemberCause) : b.moveLane l r cause true = { (b.vetoless l r).refreshOutputs with
      ballots := ballotsStill b.ballots l
      notices := posted b.vote.lastEnded b.notices
        (.memberChange l .voting .excluded cause :: abandonedNotices b.ballots l) } := by
  have moved : b.moveLane l r cause true
      = ((b.vetoless l r).refreshOutputs.post (.memberChange l .voting .excluded cause)).removeSupporter l
        (fun _ => true) := by
    unfold moveLane
    rw [excluded, voting]
    rfl
  rw [moved, removeSupporter_all]
  rfl

theorem laneState_excludeAtThreshold_of_ne {m : Lane} (other : l ≠ m) (d : Blocks) :
    (d.excludeAtThreshold l).laneState m = d.laneState m := by
  unfold excludeAtThreshold
  split
  · simp [other]
  · rfl

/-- Where no ballot is open the exclusions post their MEMBER_CHANGEs alone. -/
theorem notices_foldl_excludeAtThreshold {named : List Lane} (once : named.Nodup)
    (voting : ∀ l ∈ named, d.laneState l = .voting) (noBallot : d.ballots = []) :
    (named.foldl excludeAtThreshold d).notices = posted d.vote.lastEnded d.notices (named.filterMap fun l =>
      if d.config.strikeThreshold ≤ (d.lanes.row l).strikes then some (.memberChange l .voting .excluded .strikes)
      else none) := by
  induction named generalizing d with
  | nil => rfl
  | cons l rest ih =>
    obtain ⟨alone, once⟩ := List.nodup_cons.mp once
    have later (m : Lane) (listed : m ∈ rest) : d.laneState m = .voting := voting m (List.mem_cons_of_mem l listed)
    rw [List.foldl_cons, List.filterMap_cons]
    by_cases reached : d.config.strikeThreshold ≤ (d.lanes.row l).strikes
    · have excluded : d.excludeAtThreshold l = d.moveLane l (excludedRecord (d.lanes.row l)) .strikes true := if_pos reached
      have vote : (d.excludeAtThreshold l).vote = d.vote := by simp
      have config : (d.excludeAtThreshold l).config = d.config := config_congr (by simp)
      have state (m : Lane) (listed : m ∈ rest) : (d.excludeAtThreshold l).laneState m = .voting := by
        have other : l ≠ m := fun same => alone (same ▸ listed)
        exact (laneState_excludeAtThreshold_of_ne other d).trans (later m listed)
      have closed := moveLane_excluded_of_voting (r := excludedRecord (d.lanes.row l)) (voting l List.mem_cons_self) rfl
        .strikes
      rw [ih once state (by rw [excluded, closed, noBallot]; rfl)]
      simp only [strikes_excludeAtThreshold, config, vote, if_pos reached]
      rw [excluded, closed, noBallot]
      rfl
    · have stays : d.excludeAtThreshold l = d := if_neg reached
      rw [stays, ih once later noBallot, if_neg reached]

/-- An excluded lane supports no ballot any more, and no other lane comes to support one (06 R105). -/
theorem supports_of_foldl_excludeAtThreshold {named : List Lane} {m : Lane} (once : named.Nodup)
    (voting : ∀ l ∈ named, d.laneState l = .voting) (supports : Supports (named.foldl excludeAtThreshold d) m) :
    Supports d m ∧ ¬ AtThreshold d named m := by
  induction named generalizing d with
  | nil => exact ⟨supports, fun ⟨listed, _⟩ => by cases listed⟩
  | cons l rest ih =>
    obtain ⟨alone, once⟩ := List.nodup_cons.mp once
    have config : (d.excludeAtThreshold l).config = d.config := config_congr (by simp)
    have state (k : Lane) (listed : k ∈ rest) : (d.excludeAtThreshold l).laneState k = .voting := by
      have other : l ≠ k := fun same => alone (same ▸ listed)
      exact (laneState_excludeAtThreshold_of_ne other d).trans (voting k (List.mem_cons_of_mem l listed))
    obtain ⟨supports, below⟩ := ih once state supports
    simp only [AtThreshold, config, strikes_excludeAtThreshold] at below
    have first : Supports d m ∧ (d.config.strikeThreshold ≤ (d.lanes.row l).strikes → m ≠ l) := by
      unfold excludeAtThreshold at supports
      split at supports
      · obtain ⟨supports, other⟩ := supports_of_moveLane supports
        exact ⟨supports, fun _ => other (voting l List.mem_cons_self)⟩
      · rename_i stays
        exact ⟨supports, fun reached => absurd reached stays⟩
    obtain ⟨supports, other⟩ := first
    refine ⟨supports, fun ⟨listed, reached⟩ => ?_⟩
    rcases List.mem_cons.mp listed with rfl | listed
    · exact other reached rfl
    · exact below ⟨listed, reached⟩

end Blocks

end Sys2Proof.Machine
end

section
/-! # The close of a round in RUNNING (02 R27, 04 R67, 05 R79, R82) -/

namespace Sys2Proof.Machine

namespace Blocks

variable {b d : Blocks} {l : Lane}

/-- The VOTING count, counted lane by lane. -/
theorem votingCount_eq_countP {p : Lane → Bool} (votes : ∀ l, b.laneState l = .voting ↔ p l = true) :
    b.votingCount = (List.finRange 4).countP p := by
  have member (l : Lane) : b.votingLanes.has l = p l := by
    rw [Bool.eq_iff_iff, ← votes l]
    simp [votingLanes]
  rw [votingCount, IndexSet.size, IndexSet.members, List.countP_eq_length_filter]
  simp only [member]

theorem votingCount_congr (states : ∀ l, d.laneState l = .voting ↔ b.laneState l = .voting) :
    d.votingCount = b.votingCount :=
  Nat.le_antisymm (votingCount_mono fun l => (states l).mp) (votingCount_mono fun l => (states l).mpr)

/-! ## The blocks after report and admissions -/

/-- The blocks of a close after commit, strikes, exclusions and admissions, before the count is reported. -/
def reportTaken (b : Blocks) : Blocks := (b.commitRound b.evaluate).applyReport b.evaluate.report

theorem closeRound_none_eq (b : Blocks) : b.closeRound none = b.reportTaken.reportCount.switchAtClose := b.closeRound_none

/-- The blocks of a close after strikes and exclusions. -/
def struckBlocks (b : Blocks) : Blocks := (b.commitRound b.evaluate).reported b.evaluate.report

theorem reportTaken_eq (b : Blocks) : b.reportTaken = b.struckBlocks.admitReady := rfl

theorem reportTaken_kept (b : Blocks) : b.reportTaken.device = b.device ∧
    b.reportTaken.lockoutRecord = b.lockoutRecord ∧ b.reportTaken.vote = b.committedVote ∧
    b.reportTaken.active = b.active ∧ b.reportTaken.pendingRecord = b.pendingRecord := by
  obtain ⟨device, record, -, vote, active, pending⟩ := (b.commitRound b.evaluate).applyReport_kept b.evaluate.report
  rw [commitRound_eq] at device record vote active pending
  rw [reportTaken, commitRound_eq]
  exact ⟨device, record, vote, active, pending⟩

theorem row_struckBlocks (b : Blocks) (m : Lane) : b.struckBlocks.lanes.row m = b.reportedRow m :=
  by
  obtain ⟨lanes, active, -⟩ := b.commitRound_kept
  exact row_reported lanes active m

theorem reportedRow_of_ready (ready : b.readyForAdmission l = true) : b.reportedRow l = b.lanes.row l := by
  have other := not_voting_of_ready ready
  rw [reportedRow, if_neg fun ⟨_, voting, _⟩ => other voting,
    strikesAfter_of_not_reported b l fun ⟨_, voting⟩ => other voting]

/-- A close makes no lane ready for admission and takes none from those ready. -/
theorem readyForAdmission_struckBlocks (b : Blocks) (m : Lane) :
    b.struckBlocks.readyForAdmission m = b.readyForAdmission m := by
  have row := b.row_struckBlocks m
  by_cases struck : StruckOut b m
  · rw [reportedRow, if_pos struck] at row
    have excluded : b.struckBlocks.laneState m = .excluded := congrArg LaneRecord.state row
    obtain ⟨-, voting, -⟩ := struck
    simp only [readyForAdmission, excluded, voting]
  · rw [reportedRow, if_neg struck] at row
    have state : b.struckBlocks.laneState m = b.laneState m := by
      rw [laneState, row]
      rfl
    simp only [readyForAdmission, state, row]

/-- The lane records of a close after its admissions (04 R65, R67, R68). -/
theorem row_reportTaken (b : Blocks) (m : Lane) : b.reportTaken.lanes.row m =
    if b.readyForAdmission m = true then { b.lanes.row m with state := .voting, returnPending := false }
    else b.reportedRow m := by
  rw [reportTaken_eq, row_admitReady, admittedRow, readyForAdmission_struckBlocks, row_struckBlocks]
  by_cases ready : b.readyForAdmission m = true
  · rw [if_pos ready, if_pos ready, reportedRow_of_ready ready]
  · rw [if_neg ready, if_neg ready]

theorem laneState_reportTaken (b : Blocks) (m : Lane) : b.reportTaken.laneState m = .voting ↔
    (b.laneState m = .voting ∧ ¬ StruckOut b m) ∨ b.readyForAdmission m = true := by
  rw [laneState, row_reportTaken]
  by_cases ready : b.readyForAdmission m = true
  · simp [ready]
  · rw [if_neg ready, reportedRow]
    by_cases struck : StruckOut b m
    · rw [if_pos struck]
      simp [struck, ready, excludedRecord]
    · rw [if_neg struck]
      simp [struck, ready, laneState]

/-- No lane is ready for admission after the admissions of a close. -/
theorem readyForAdmission_reportTaken (b : Blocks) (m : Lane) : b.reportTaken.readyForAdmission m = false := by
  rw [reportTaken_eq]
  exact b.struckBlocks.readyForAdmission_admitReady m

theorem output_reportTaken (b : Blocks) : b.reportTaken.output = b.struckBlocks.output := by
  rw [reportTaken_eq, admitReady_eq]

theorem vetoes_reportTaken (b : Blocks) (m : Lane) : b.reportTaken.output.vetoes.row m =
    if StruckOut b m then 0 else b.output.vetoes.row m := by
  obtain ⟨lanes, active, -, vetoes⟩ := b.commitRound_kept
  rw [output_reportTaken, struckBlocks, vetoes_reported lanes active, vetoes]

/-- The lanes the report names, where the lane states are those of `b`. -/
theorem voting_of_report (lanes : d.lanes = b.lanes) (l : Lane) (listed : l ∈ b.evaluate.report.map Prod.fst) :
    (b.evaluate.report.foldl applyStrike d).laneState l = .voting := by
  have named := (b.mem_report_fst l).mp listed
  rw [laneState, row_foldl_applyStrike_of_mem b.nodup_report (mem_report named), lanes]
  obtain ⟨-, voting⟩ := named
  exact voting

theorem not_supports_reportTaken (struck : StruckOut b l) : ¬ Supports b.reportTaken l := by
  intro supports
  obtain ⟨proposed, voting, reached⟩ := struck
  have named := And.intro proposed voting
  obtain ⟨lanes, active, -⟩ := b.commitRound_kept
  rw [reportTaken_eq, admitReady_eq] at supports
  obtain ⟨-, below⟩ := supports_of_foldl_excludeAtThreshold b.nodup_report (voting_of_report lanes) supports
  refine below ⟨(b.mem_report_fst l).mpr named, ?_⟩
  rw [config_foldl_applyStrike, config_congr active, row_foldl_applyStrike_of_mem b.nodup_report (mem_report named), lanes,
    strikes_struckRecord named]
  exact reached

/-- The MEMBER_CHANGEs of the exclusions of a close, in ascending lane order (04 R68). -/
def exclusionNotices (b : Blocks) : List NoticeBody := (List.finRange 4).filterMap fun l =>
  if StruckOut b l then some (.memberChange l .voting .excluded .strikes) else none

theorem notices_struckBlocks (noBallot : b.ballots = []) : b.struckBlocks.notices =
    posted b.vote.nextRound b.notices (closeNotices b ++ b.exclusionNotices) := by
  obtain ⟨lanes, active, ballots, -⟩ := b.commitRound_kept
  have none : (b.evaluate.report.foldl applyStrike (b.commitRound b.evaluate)).ballots = [] := by
    rw [foldl_applyStrike_eq]
    exact ballots.trans noBallot
  have listed : ((b.evaluate.report.map Prod.fst).filterMap fun l =>
      if (b.evaluate.report.foldl applyStrike (b.commitRound b.evaluate)).config.strikeThreshold
        ≤ ((b.evaluate.report.foldl applyStrike (b.commitRound b.evaluate)).lanes.row l).strikes
      then some (NoticeBody.memberChange l .voting .excluded .strikes) else Option.none) = b.exclusionNotices := by
    rw [report_fst, IndexSet.members, List.filterMap_filter]
    refine List.filterMap_congr fun l _ => ?_
    by_cases named : b.vote.proposers.has l = true ∧ b.laneState l = .voting
    · rw [if_pos ((b.has_inputLanes l).mpr named), row_foldl_applyStrike_of_mem b.nodup_report (mem_report named), lanes,
        strikes_struckRecord named, config_foldl_applyStrike, config_congr active]
      simp only [struckOut_iff named]
    · rw [if_neg (mt (b.has_inputLanes l).mp named), if_neg fun ⟨proposed, voting, _⟩ => named ⟨proposed, voting⟩]
  have start : (b.evaluate.report.foldl applyStrike (b.commitRound b.evaluate)).notices
      = posted b.vote.nextRound b.notices (closeNotices b) := by
    rw [foldl_applyStrike_eq, commitRound_eq]
  have stamp : (b.evaluate.report.foldl applyStrike (b.commitRound b.evaluate)).vote.lastEnded = b.vote.nextRound := by
    rw [foldl_applyStrike_eq, commitRound_eq]
    exact b.lastEnded_committedVote
  rw [struckBlocks, reported, notices_foldl_excludeAtThreshold b.nodup_report (voting_of_report lanes) none, listed, start,
    stamp, ← posted_append]

theorem admissionNotices_struckBlocks (b : Blocks) : b.struckBlocks.admissionNotices = b.admissionNotices := by
  refine List.filterMap_congr fun m _ => ?_
  by_cases ready : b.readyForAdmission m = true
  · exact admissionNotice_congr ((b.row_struckBlocks m).trans (reportedRow_of_ready ready))
  · have waits : b.struckBlocks.readyForAdmission m ≠ true := by rwa [readyForAdmission_struckBlocks]
    rw [admissionNotice_of_not_ready waits, admissionNotice_of_not_ready ready]

theorem notices_reportTaken (noBallot : b.ballots = []) : b.reportTaken.notices =
    posted b.vote.nextRound b.notices (closeNotices b ++ b.exclusionNotices ++ b.admissionNotices) := by
  have notices : b.reportTaken.notices
      = posted b.struckBlocks.vote.lastEnded b.struckBlocks.notices b.struckBlocks.admissionNotices := by
    rw [reportTaken_eq, admitReady_eq]
  have stamp : b.struckBlocks.vote.lastEnded = b.vote.nextRound := by
    obtain ⟨-, -, vote, -⟩ := (b.commitRound b.evaluate).reported_kept b.evaluate.report
    rw [struckBlocks, vote, commitRound_eq]
    exact b.lastEnded_committedVote
  rw [notices, stamp, admissionNotices_struckBlocks, notices_struckBlocks noBallot, ← posted_append]

end Blocks

end Sys2Proof.Machine
end

section
/-! # The deadline of a round, and the entry to SAFE_HOLD at its close (02 R24, R27, 05 R82) -/

namespace Sys2Proof.Machine

namespace Blocks

variable {b d : Blocks} {l : Lane}

/-! ## A close that moves no lane -/

theorem strikesAfter_le (b : Blocks) (l : Lane) : strikesAfter b l ≤ (b.lanes.row l).strikes + 1 := by
  unfold strikesAfter
  split
  · split <;> omega
  · omega

/-- Where every VOTING lane is two strikes short of the threshold a close strikes no lane out. -/
theorem not_struckOut_of_below (below : ∀ l, b.laneState l = .voting → (b.lanes.row l).strikes + 1 < b.config.strikeThreshold)
    (l : Lane) : ¬ StruckOut b l := fun ⟨_, voting, reached⟩ => by
  have bound := b.strikesAfter_le l
  have short := below l voting
  omega

/-- With no lane struck out and none ready the report changes strike counts alone. -/
theorem reportTaken_of_none (struck : ∀ l, ¬ StruckOut b l) (ready : ∀ l, b.readyForAdmission l = false) :
    b.reportTaken = { b.commitRound b.evaluate with lanes := Table.build b.reportedRow } := by
  obtain ⟨lanes, active, -⟩ := b.commitRound_kept
  rw [reportTaken_eq, admitReady_of_none fun m => (b.readyForAdmission_struckBlocks m).trans (ready m)]
  exact reported_of_none lanes active struck

/-- A close that strikes no lane out leaves at least as many VOTING lanes. -/
theorem hasQuorum_reportTaken (struck : ∀ l, ¬ StruckOut b l) (quorate : b.config.quorum ≤ b.votingCount) :
    b.reportTaken.hasQuorum = true := by
  obtain ⟨-, -, -, active, -⟩ := b.reportTaken_kept
  rw [hasQuorum_iff, config_congr active]
  exact quorate.trans (votingCount_mono fun l voting => (b.laneState_reportTaken l).mpr (.inl ⟨voting, struck l⟩))

theorem switchAtClose_of_none (none : b.pendingRecord = none) : b.switchAtClose = b := by
  unfold switchAtClose
  rw [none]
  cases b.device <;> rfl

end Blocks

/-- The deadline that expires closes the round and touches nothing outside the blocks. -/
theorem exec_deadline_follows {s : State} (due : s.timer .deadline = some 0) (e : Option Evaluation) :
    ∃ t, exec (.roundDeadlineExpiry e) s = .next t ∧ OutsideKept s t ∧ t.staging = s.staging ∧
      t.toBlocks = s.toBlocks.closeRound e := by
  have done := exec_deadline_due due e
  generalize s.toBlocks.closeRound e = b at done ⊢
  exact ⟨_, done, ⟨rfl, rfl, rfl⟩, rfl, rfl⟩

/-- Settles O34: the close at the deadline commits, and its report changes strike counts alone. -/
theorem deadlineCommitsTheRound : Obligations.DeadlineCommitsTheRound := by
  intro s due running quorate pending ready below
  have struck := Blocks.not_struckOut_of_below below
  obtain ⟨device, -, -, -, kept⟩ := s.toBlocks.reportTaken_kept
  have closed : s.toBlocks.closeRound none
      = { s.toBlocks.commitRound s.toBlocks.evaluate with lanes := Table.build s.toBlocks.reportedRow } := by
    rw [Blocks.closeRound_none_eq, Blocks.reportCount_of_quorate (device.trans running)
      (Blocks.hasQuorum_reportTaken struck quorate), Blocks.switchAtClose_of_none (kept.trans pending),
      Blocks.reportTaken_of_none struck ready]
  obtain ⟨t, done, outside, staging, blocks⟩ := exec_deadline_follows due none
  rw [closed, Blocks.commitRound_eq] at blocks
  refine ⟨t, done, outside, staging, ?_⟩
  rw [blocks]
  refine ⟨running, rfl, rfl, rfl, rfl, rfl, rfl,
    fun m c => Blocks.proposals_emptyProposals s.toBlocks.committedInputs.vote m c, fun c used => ?_, fun c unused => ?_, fun l => ?_, rfl⟩
  · exact (Table.row_build _ c).trans (Blocks.committedRecord_of_used used)
  · exact (congrArg ChannelRecord.agreed (Table.row_build _ c)).trans (Blocks.agreed_committedRecord_of_unused unused)
  · exact (Table.row_build _ l).trans (if_neg (struck l))

namespace Blocks

variable {b d : Blocks} {l : Lane}

/-! ## SAFE_HOLD entry -/

/-- The vote engine SAFE_HOLD entry leaves when a round is open (02 R39, 05 R82). -/
def heldVote (b : Blocks) : VoteEngine := { emptyProposals b.vote with
  nextRound := b.vote.nextRound + 1, openRound := .none, deadline := none
  channels := Table.build fun c => { b.vote.channels.row c with agreed := b.fallback c } }

/-- The blocks at SAFE_HOLD entry with a round open, before the drives are recomputed. -/
def heldInputs (b : Blocks) : Blocks := { b with device := .safeHold, vote := b.heldVote }

theorem safeHoldInputs_of_open (isOpen : b.vote.openRound ≠ .none) : b.safeHoldInputs = b.heldInputs := by
  have discarded : ({ b with device := .safeHold } : Blocks).discardRound = { b with
      device := .safeHold
      vote := { emptyProposals b.vote with nextRound := b.vote.nextRound + 1, openRound := .none, deadline := none } } := by
    unfold discardRound
    cases round : b.vote.openRound with
    | none => exact absurd round isOpen
    | idle => rfl
    | collecting => rfl
  rw [safeHoldInputs, discarded]
  rfl

/-- SAFE_HOLD entry up to its switch: round discarded, fallback image, drives recomputed, every ready lane admitted. -/
theorem safeHoldSteps_of_open (isOpen : b.vote.openRound ≠ .none) : b.safeHoldSteps = { b.heldInputs.refreshOutputs with
    lanes := Table.build b.admittedRow
    notices := posted b.vote.nextRound b.notices (.stateChange .running .safeHold .quorumLost :: b.admissionNotices) } := by
  have stamp : b.heldVote.lastEnded = b.vote.nextRound := BitVec.add_sub_cancel ..
  rw [safeHoldSteps_eq, safeHoldInputs_of_open isOpen, admitReady_eq, ← stamp]
  rfl

end Blocks

namespace Blocks

variable {b : Blocks}

/-- SAFE_HOLD entry with no lane ready: the lanes stand. -/
theorem safeHoldSteps_of_none (isOpen : b.vote.openRound ≠ .none) (ready : ∀ l, b.readyForAdmission l = false) :
    b.safeHoldSteps = { b.heldInputs.refreshOutputs with
      notices := b.notices.post b.vote.nextRound (.stateChange .running .safeHold .quorumLost) } := by
  have rows : Table.build b.admittedRow = b.lanes :=
    Table.ext_rows fun m => by rw [Table.row_build, admittedRow, if_neg (by simp [ready m])]
  have notices : b.admissionNotices = [] :=
    List.filterMap_eq_nil_iff.mpr fun m _ => admissionNotice_of_not_ready (by simp [ready m])
  rw [safeHoldSteps_of_open isOpen, rows, notices]
  rfl

theorem reportCount_of_few (running : b.device = .running) (few : b.hasQuorum ≠ true) (pending : b.pendingRecord = none) :
    b.reportCount = b.safeHoldSteps := by
  have kept : b.safeHoldSteps.pendingRecord = none := by simpa using pending
  rw [reportCount, running]
  simp only [if_neg few]
  rw [enterSafeHold, carryOutPending, kept]

/-- A close with no switch pending: the count is compared once (05 R79). -/
theorem closeRound_none_of_no_switch (running : b.device = .running) (pending : b.pendingRecord = none) :
    b.closeRound none = if b.reportTaken.hasQuorum = true then b.reportTaken else b.reportTaken.safeHoldSteps := by
  obtain ⟨device, -, -, -, kept⟩ := b.reportTaken_kept
  rw [closeRound_none_eq]
  by_cases quorate : b.reportTaken.hasQuorum = true
  · rw [if_pos quorate, reportCount_of_quorate (device.trans running) quorate,
      switchAtClose_of_none (kept.trans pending)]
  · rw [if_neg quorate, reportCount_of_few (device.trans running) quorate (kept.trans pending), switchAtClose_of_none]
    simpa using kept.trans pending

/-- What a close leaves of lanes, vetoes and support (04 R65 to R68, 06 R105). -/
theorem reportTaken_follows {d : Blocks} (lanes : d.lanes = b.reportTaken.lanes)
    (vetoes : d.output.vetoes = b.reportTaken.output.vetoes) (ballots : d.ballots = b.reportTaken.ballots) (l : Lane) :
    (StruckOut b l →
      d.lanes.row l = { b.lanes.row l with
        state := .excluded, strikes := strikesAfter b l, lease := none, grace := none, returnPending := false } ∧
      d.output.vetoes.row l = 0 ∧ ∀ x ∈ d.ballots, x.supporters.has l = false) ∧
    (b.readyForAdmission l = true → d.lanes.row l = { b.lanes.row l with state := .voting, returnPending := false }) ∧
    (¬ StruckOut b l → b.readyForAdmission l = false →
      d.lanes.row l = { b.lanes.row l with strikes := strikesAfter b l }) ∧
    (¬ StruckOut b l → d.output.vetoes.row l = b.output.vetoes.row l) := by
  rw [lanes, vetoes, ballots, row_reportTaken, vetoes_reportTaken, reportedRow]
  refine ⟨fun struck => ⟨?_, if_pos struck, fun x listed => ?_⟩, fun ready => if_pos ready, fun stays waits => ?_,
    fun stays => if_neg stays⟩
  · have waits : b.readyForAdmission l ≠ true := fun ready =>
      not_voting_of_ready ready (by obtain ⟨-, voting, -⟩ := struck; exact voting)
    rw [if_neg waits, if_pos struck]
    rfl
  · exact Bool.eq_false_iff.mpr fun supports => not_supports_reportTaken struck ⟨x, listed, supports⟩
  · rw [if_neg (by simp [waits]), if_neg stays]

end Blocks

/-- Settles O35: strikes and exclusions, then admissions, then the count compared once. -/
theorem closeExcludesAndAdmits : Obligations.CloseExcludesAndAdmits := by
  intro s due running pending remain count changes
  obtain ⟨device, record, vote, active, kept⟩ := s.toBlocks.reportTaken_kept
  have votes : s.toBlocks.reportTaken.votingCount = count :=
    Blocks.votingCount_eq_countP fun l => by rw [Blocks.laneState_reportTaken, decide_eq_true_eq]
  have quorum : s.toBlocks.reportTaken.hasQuorum = true ↔ s.config.quorum ≤ count := by
    rw [Blocks.hasQuorum_iff, votes, Blocks.config_congr active]
  have idle : s.toBlocks.reportTaken.vote.openRound = .idle := congrArg VoteEngine.openRound vote
  have round : s.toBlocks.reportTaken.vote.nextRound = s.vote.nextRound + 1 := congrArg VoteEngine.nextRound vote
  have follows := @Blocks.reportTaken_follows s.toBlocks
  have notices : s.ballots = [] → s.toBlocks.reportTaken.notices = posted s.vote.nextRound s.notices changes :=
    Blocks.notices_reportTaken
  have ready := s.toBlocks.readyForAdmission_reportTaken
  have closed := Blocks.closeRound_none_of_no_switch running pending
  obtain ⟨t, done, outside, staging, blocks⟩ := exec_deadline_follows due none
  refine ⟨t, done, outside, staging, ?_⟩
  rw [closed] at blocks
  generalize s.toBlocks.reportTaken = taken at *
  by_cases enough : s.config.quorum ≤ count
  · rw [if_pos (quorum.mpr enough)] at blocks
    have lanes := follows (d := t.toBlocks) (by rw [blocks]) (by rw [blocks]) (by rw [blocks])
    rw [blocks] at lanes ⊢
    exact ⟨active, kept.trans pending, record, lanes,
      fun _ => ⟨device.trans running, idle, round, notices⟩, fun few => absurd few (Nat.not_lt.mpr enough)⟩
  · rw [if_neg (mt quorum.mp enough), Blocks.safeHoldSteps_of_none (by simp [idle]) ready] at blocks
    have lanes := follows (d := t.toBlocks) (by rw [blocks]; rfl) (by rw [blocks]; rfl) (by rw [blocks]; rfl)
    have fallback := Blocks.fallback_congr active
    rw [blocks] at lanes ⊢
    refine ⟨active, kept.trans pending, record, lanes, fun quorate => absurd quorate enough, fun _ => ⟨rfl, rfl,
      congrArg (· + 1) round, fun c => ?_, fun noBallot => ?_⟩⟩
    · exact (congrArg ChannelRecord.agreed (Table.row_build _ c)).trans (fallback c)
    · rw [← notices noBallot, ← round]

end Sys2Proof.Machine
end

section
/-! # What a switch of the configuration leaves (07 R124, R125) -/

namespace Sys2Proof.Machine

namespace Blocks

variable {b d : Blocks} {l m : Lane} {p : PendingRecord}

/-! ## Readers -/

/-- A change of lane state posts notices after the reader step (04 R73). -/
theorem exists_notices_moveLane (b : Blocks) (l : Lane) (r : LaneRecord) (cause : MemberCause) (recompute : Bool) :
    ∃ bodies, (b.moveLane l r cause recompute).notices = posted b.vote.lastEnded
      (if r.state = .absent then b.notices.leaveReader l
        else if b.laneState l = .absent then b.notices.joinReader l else b.notices) bodies := by
  have posts (e : Blocks) (body : NoticeBody) (before : LaneState) :
      ∃ bodies, ((e.post body).supporterStep l before).notices = posted e.vote.lastEnded e.notices bodies := by
    unfold supporterStep
    split
    · exact ⟨body :: abandonedNotices e.ballots l, by rw [removeSupporter_all]; rfl⟩
    · exact ⟨[body], rfl⟩
  obtain ⟨bodies, notices⟩ := posts (((b.setLane l r).vetoStep l r.state recompute).readerStep l (b.laneState l) r.state)
    (.memberChange l (b.laneState l) r.state cause) (b.laneState l)
  refine ⟨bodies, notices.trans ?_⟩
  have stamp : (((b.setLane l r).vetoStep l r.state recompute).readerStep l (b.laneState l) r.state).vote = b.vote := by
    simp
  rw [stamp]
  congr 1
  have kept : ((b.setLane l r).vetoStep l r.state recompute).notices = b.notices := by simp
  unfold readerStep
  simp only [beq_iff_eq]
  split
  · rw [kept]
  · split
    · rw [kept]
    · exact kept

theorem readers_moveLane_absent {r : LaneRecord} (absent : r.state = .absent) (cause : MemberCause) (recompute : Bool) :
    (b.moveLane l r cause recompute).notices.readers.row l = none := by
  obtain ⟨bodies, notices⟩ := b.exists_notices_moveLane l r cause recompute
  rw [notices, if_pos absent]
  exact readers_posted_of_none (NoticeUnit.readers_leaveReader ..) _ _

/-- A lane that is no reader does not become one by the move of a lane that is not ABSENT. -/
theorem readers_moveLane_of_none {r : LaneRecord} (present : b.laneState l ≠ .absent) (cause : MemberCause)
    (recompute : Bool) (none : b.notices.readers.row m = none) :
    (b.moveLane l r cause recompute).notices.readers.row m = Option.none := by
  obtain ⟨bodies, notices⟩ := b.exists_notices_moveLane l r cause recompute
  rw [notices]
  refine readers_posted_of_none ?_ _ _
  by_cases absent : r.state = .absent
  · rw [if_pos absent, NoticeUnit.leaveReader_eq, NoticeUnit.readers_setReader, Table.row_put]
    split
    · rfl
    · exact none
  · rwa [if_neg absent, if_neg present]

theorem readers_switchLane_of_none (none : b.notices.readers.row m = none) :
    (b.switchLane l).notices.readers.row m = Option.none := by
  unfold switchLane
  simp only [beq_iff_eq]
  split
  · exact none
  rename_i present
  split
  · exact readers_moveLane_of_none present _ _ none
  split
  · exact readers_moveLane_of_none present _ _ none
  · exact none

theorem readers_switchLane_self (present : b.laneState l ≠ .absent) (leaves : b.config.enrolled.has l = false) :
    (b.switchLane l).notices.readers.row l = none := by
  have moves : b.switchLane l = b.moveLane l (absentRecord (b.lanes.row l)) .notEnrolled false := by
    have state : (b.lanes.row l).state ≠ .absent := present
    simp [switchLane, state, leaves]
  rw [moves]
  exact readers_moveLane_absent rfl _ _

/-- A lane that a switch takes to ABSENT is no reader after it (04 R72, 09 R152). -/
theorem readers_foldl_switchLane {ls : List Lane} (listed : l ∈ ls) (present : b.laneState l ≠ .absent)
    (leaves : b.config.enrolled.has l = false) : (ls.foldl switchLane b).notices.readers.row l = none := by
  induction ls generalizing b with
  | nil => cases listed
  | cons k rest ih =>
    rw [List.foldl_cons]
    by_cases same : k = l
    · subst same
      exact List.foldlRecOn (motive := fun d : Blocks => d.notices.readers.row k = none) _ _
        (readers_switchLane_self present leaves) fun _ gone _ _ => readers_switchLane_of_none gone
    · have config : (b.switchLane k).config = b.config := config_congr (by simp)
      have later : l ∈ rest := (List.mem_cons.mp listed).resolve_left (Ne.symm same)
      exact ih later (by rwa [laneState_switchLane, if_neg same]) (by rwa [config])

/-- A switch that finds every lane in line with the new configuration moves none. -/
theorem foldl_switchLane_of_stays {ls : List Lane}
    (stays : ∀ l ∈ ls, b.laneState l = .absent ∨ (b.config.enrolled.has l = true ∧ b.laneState l ≠ .linked)) :
    ls.foldl switchLane b = b := by
  induction ls with
  | nil => rfl
  | cons l rest ih =>
    have stands : b.switchLane l = b := by
      have state : (b.lanes.row l).state = b.laneState l := rfl
      unfold switchLane
      rcases stays l List.mem_cons_self with absent | ⟨enrolled, linked⟩
      · simp [state, absent]
      · simp [state, enrolled, linked]
    rw [List.foldl_cons, stands, ih fun k listed => stays k (List.mem_cons_of_mem l listed)]

/-! ## The blocks of a switch before its drives are recomputed -/

/-- The blocks of a switch before the lanes are brought into line (07 R124). -/
def announcedSwitch (b : Blocks) (p : PendingRecord) : Blocks :=
  ((b.switchedInputs p).post (.configSwitched (b.active.map ActiveConfig.digest) p.digest)).discardBallots

theorem announcedSwitch_kept (b : Blocks) (p : PendingRecord) : (b.announcedSwitch p).device = b.device ∧
    (b.announcedSwitch p).active = some ⟨decodeConfig p.image, p.digest⟩ ∧
    (b.announcedSwitch p).vote = (b.switchedInputs p).vote ∧ (b.announcedSwitch p).lanes = b.lanes ∧
    (b.announcedSwitch p).output.channels = (b.switchedInputs p).output.channels ∧
    (b.announcedSwitch p).notices = posted b.vote.lastEnded b.notices
      (.configSwitched (b.active.map ActiveConfig.digest) p.digest
        :: b.ballots.map fun x => .ballotEnded x.slot x.action .discarded x.supporters) := by
  rw [announcedSwitch, discardBallots_eq]
  exact ⟨rfl, rfl, rfl, rfl, rfl, rfl⟩

theorem config_announcedSwitch (b : Blocks) (p : PendingRecord) : (b.announcedSwitch p).config = decodeConfig p.image := by
  obtain ⟨-, active, -⟩ := b.announcedSwitch_kept p
  rw [Blocks.config, active]

theorem laneState_announcedSwitch (b : Blocks) (p : PendingRecord) (l : Lane) :
    (b.announcedSwitch p).laneState l = b.laneState l := by
  obtain ⟨-, -, -, lanes, -⟩ := b.announcedSwitch_kept p
  exact laneState_congr lanes l

/-- The blocks of a switch before step 7 recomputes the drives (07 R124). -/
def switchedBlocks (b : Blocks) (p : PendingRecord) : Blocks := (b.announcedSwitch p).switchLanes

theorem switchTo_eq_recomputed (b : Blocks) (p : PendingRecord) :
    b.switchTo p = (b.switchedBlocks p).refreshOutputs.updateFailn := b.switchTo_eq p

theorem switchedBlocks_kept (b : Blocks) (p : PendingRecord) : (b.switchedBlocks p).device = b.device ∧
    (b.switchedBlocks p).active = some ⟨decodeConfig p.image, p.digest⟩ ∧
    (b.switchedBlocks p).vote = (b.switchedInputs p).vote ∧
    (b.switchedBlocks p).output.channels = (b.switchedInputs p).output.channels := by
  obtain ⟨device, active, vote, -, channels, -⟩ := b.announcedSwitch_kept p
  obtain ⟨device', -, -, vote', active', -⟩ := (b.announcedSwitch p).switchLanes_kept
  exact ⟨device'.trans device, active'.trans active, vote'.trans vote, (channels_switchLanes _).trans channels⟩

/-- Step 2 writes the channel records of the vote engine and nothing else of it. -/
theorem vote_switchTo (b : Blocks) (p : PendingRecord) : (b.switchTo p).vote = { b.vote with
    channels := Table.build fun c => ⟨((decodeConfig p.image).entries.row c).fallback, 0, false, false⟩ } := by
  obtain ⟨-, -, vote, -⟩ := b.switchedBlocks_kept p
  rw [switchTo_eq_recomputed]
  simp only [updateFailn_kept, refreshOutputs_kept, vote]
  rfl

/-- The output of a channel after step 3: its fault state is cleared when its type changes (07 R125). -/
theorem channelOutput_switchedBlocks (b : Blocks) (p : PendingRecord) (c : Channel) :
    (b.switchedBlocks p).channelOutput c = if ((decodeConfig p.image).entries.row c).type = b.channelType c
      then b.channelOutput c else { b.channelOutput c with fault := .none } := by
  obtain ⟨-, -, -, channels⟩ := b.switchedBlocks_kept p
  rw [channelOutput_congr_channels channels]
  exact Table.row_build _ c

theorem channelOutput_switchTo (b : Blocks) (p : PendingRecord) (c : Channel) :
    (b.switchTo p).channelOutput c = (b.switchedBlocks p).refreshedOutput c := by
  rw [switchTo_eq_recomputed, channelOutput_updateFailn, channelOutput_refreshOutputs]

theorem entry_switchedBlocks (b : Blocks) (p : PendingRecord) (c : Channel) :
    (b.switchedBlocks p).entry c = (decodeConfig p.image).entries.row c := by
  obtain ⟨-, active, -⟩ := b.switchedBlocks_kept p
  simp [Blocks.entry, Blocks.config, active]

/-- A channel whose agreed value is its fallback value is driven to it whatever its faults and vetoes (01 R8). -/
theorem driveOf_of_agreed_eq {c : Channel} (same : b.agreed c = b.fallback c) : b.driveOf c =
    if (b.entry c).type = .unused then ⟨.unused, 0⟩ else ⟨(b.entry c).type, (b.entry c).fallback⟩ := by
  rw [driveOf_eq_ite, same, ite_self]
  rfl

/-- After a switch every channel is driven to its new fallback value, in RUNNING too (07 R124). -/
theorem drive_after_switchTo (b : Blocks) (p : PendingRecord) (c : Channel) : ((b.switchTo p).channelOutput c).drive =
    if ((decodeConfig p.image).entries.row c).type = .unused then ⟨.unused, 0⟩
    else ⟨((decodeConfig p.image).entries.row c).type, ((decodeConfig p.image).entries.row c).fallback⟩ := by
  have same : (b.switchedBlocks p).agreed c = (b.switchedBlocks p).fallback c := by
    obtain ⟨-, -, vote, -⟩ := b.switchedBlocks_kept p
    have fallback : (b.switchedBlocks p).fallback c = ((decodeConfig p.image).entries.row c).fallback :=
      congrArg ChannelEntry.fallback (b.entry_switchedBlocks p c)
    rw [fallback, agreed, vote]
    exact congrArg ChannelRecord.agreed (Table.row_build _ c)
  rw [channelOutput_switchTo, refreshedOutput_drive, driveOf_of_agreed_eq same, entry_switchedBlocks]

theorem fault_switchTo (b : Blocks) (p : PendingRecord) (c : Channel) : (b.switchTo p).fault c =
    if ((decodeConfig p.image).entries.row c).type = b.channelType c then b.fault c else .none := by
  rw [fault, channelOutput_switchTo, refreshedOutput_fault, fault, channelOutput_switchedBlocks]
  split <;> rfl

theorem readback_refreshedOutput (b : Blocks) (c : Channel) :
    (b.refreshedOutput c).readback = (b.channelOutput c).readback := by
  rw [refreshedOutput, superviseOutput, driveTo_readback]

theorem settle_refreshedOutput (b : Blocks) (c : Channel) : (b.refreshedOutput c).settle =
    settleAfter (b.channelOutput c).drive (b.channelOutput c).settle (b.driveOf c) (b.entry c).settleTime :=
  ChannelOutput.driveTo_settle ..

theorem readback_switchTo (b : Blocks) (p : PendingRecord) (c : Channel) :
    ((b.switchTo p).channelOutput c).readback = (b.channelOutput c).readback := by
  rw [channelOutput_switchTo, readback_refreshedOutput, channelOutput_switchedBlocks]
  split <;> rfl

/-- A switch recomputes each drive once, and starts the settle timer of each that changes (01 R10). -/
theorem settle_switchTo (b : Blocks) (p : PendingRecord) (c : Channel) : ((b.switchTo p).channelOutput c).settle =
    settleAfter (b.channelOutput c).drive (b.channelOutput c).settle ((b.switchTo p).channelOutput c).drive
      ((decodeConfig p.image).entries.row c).settleTime := by
  rw [channelOutput_switchTo, refreshedOutput_drive, settle_refreshedOutput, channelOutput_switchedBlocks,
    entry_switchedBlocks]
  split <;> rfl

theorem failn_switchTo (live : b.device ≠ .lockout) (p : PendingRecord) :
    (b.switchTo p).failn = true ↔ ∃ c, (b.switchTo p).fault c = .unsafeState := by
  have device : (b.switchTo p).device = b.device := by simp
  rw [switchTo_failn, failnCondition_iff, device]
  simp [live]

/-! ## Lanes and notices after a switch -/

theorem notices_switchTo_eq (b : Blocks) (p : PendingRecord) :
    (b.switchTo p).notices = ((List.finRange 4).foldl switchLane (b.announcedSwitch p)).notices := by
  rw [switchTo_eq_recomputed]
  simp only [updateFailn_kept, refreshOutputs_kept, switchedBlocks, switchLanes]

theorem readers_switchTo (p : PendingRecord) (present : b.laneState l ≠ .absent)
    (leaves : (decodeConfig p.image).enrolled.has l = false) : (b.switchTo p).notices.readers.row l = none := by
  rw [notices_switchTo_eq]
  exact readers_foldl_switchLane (List.mem_finRange l) (by rwa [laneState_announcedSwitch])
    (by rwa [config_announcedSwitch])

/-- A switch that moves no lane posts CONFIG_SWITCHED and the ends of the open ballots (07 R124). -/
theorem notices_switchTo (stays : ∀ l, b.laneState l = .absent ∨
    ((decodeConfig p.image).enrolled.has l = true ∧ b.laneState l ≠ .linked)) : (b.switchTo p).notices =
      posted b.vote.lastEnded b.notices (.configSwitched (b.active.map ActiveConfig.digest) p.digest
        :: b.ballots.map fun x => .ballotEnded x.slot x.action .discarded x.supporters) := by
  obtain ⟨-, -, -, -, -, notices⟩ := b.announcedSwitch_kept p
  have stands : (List.finRange 4).foldl switchLane (b.announcedSwitch p) = b.announcedSwitch p :=
    foldl_switchLane_of_stays fun l _ => by
      rw [laneState_announcedSwitch, config_announcedSwitch]
      exact stays l
  rw [notices_switchTo_eq, stands, notices]

/-- The record of a lane that the new configuration enrols, or that takes no part, keeps all but its strike count. -/
theorem row_switchTo_of_stays (stays : b.laneState l = .absent ∨ (decodeConfig p.image).enrolled.has l = true)
    (linked : b.laneState l ≠ .linked) : (b.switchTo p).lanes.row l = { b.lanes.row l with strikes := 0 } := by
  have state : (b.lanes.row l).state = b.laneState l := rfl
  rw [row_switchTo, switchedRecord, state]
  rcases stays with absent | enrolled
  · rw [if_pos absent]
  · rw [if_neg (by simp [enrolled] : ¬ (decodeConfig p.image).enrolled.has l = false), if_neg linked, ite_self]

theorem row_switchTo_of_leaves (present : b.laneState l ≠ .absent) (leaves : (decodeConfig p.image).enrolled.has l = false) :
    (b.switchTo p).lanes.row l = { absentRecord (b.lanes.row l) with strikes := 0 } := by
  have state : (b.lanes.row l).state = b.laneState l := rfl
  rw [row_switchTo, switchedRecord, state, if_neg present, if_pos leaves]

theorem has_vetoes_switchTo_of_stays (stays : b.laneState l = .absent ∨ (decodeConfig p.image).enrolled.has l = true)
    (c : Channel) : ((b.switchTo p).output.vetoes.row l).has c
      = ((b.output.vetoes.row l).has c && decide (((decodeConfig p.image).entries.row c).type ≠ .unused)) := by
  have keeps : ¬ (b.laneState l ≠ .absent ∧ (decodeConfig p.image).enrolled.has l = false) := by
    rintro ⟨present, leaves⟩
    rcases stays with absent | enrolled
    · exact present absent
    · simp [leaves] at enrolled
  rw [vetoes_switchTo, if_neg keeps, IndexSet.has_ofPred, bne, beq_eq_decide, decide_not]

theorem vetoes_switchTo_of_leaves (present : b.laneState l ≠ .absent)
    (leaves : (decodeConfig p.image).enrolled.has l = false) : (b.switchTo p).output.vetoes.row l = 0 := by
  rw [vetoes_switchTo, if_pos ⟨present, leaves⟩]

end Blocks

end Sys2Proof.Machine
end

section
/-! # A pending switch at the close of a round (07 R123, R127, 05 R84) -/

namespace Sys2Proof.Machine

namespace Blocks

variable {b d : Blocks} {l : Lane} {p : PendingRecord}

/-- What a switch leaves of a lane, read in blocks that keep the lanes, vetoes and absent readers of the switch. -/
theorem switchTo_follows (lanes : d.lanes = (b.switchTo p).lanes) (vetoes : d.output.vetoes = (b.switchTo p).output.vetoes)
    (readers : ∀ l, (b.switchTo p).notices.readers.row l = none → d.notices.readers.row l = none) (l : Lane) :
    ((b.laneState l = .absent ∨ (decodeConfig p.image).enrolled.has l = true) → b.laneState l ≠ .linked →
      d.lanes.row l = { b.lanes.row l with strikes := 0 } ∧ ∀ c, (d.output.vetoes.row l).has c
        = ((b.output.vetoes.row l).has c && decide (((decodeConfig p.image).entries.row c).type ≠ .unused))) ∧
    (¬ (b.laneState l = .absent ∨ (decodeConfig p.image).enrolled.has l = true) →
      d.lanes.row l = { absentRecord (b.lanes.row l) with strikes := 0 } ∧ d.output.vetoes.row l = 0 ∧
      d.notices.readers.row l = none) := by
  rw [lanes, vetoes]
  refine ⟨fun stays unlinked => ⟨row_switchTo_of_stays stays unlinked, has_vetoes_switchTo_of_stays stays⟩, fun leaves => ?_⟩
  obtain ⟨present, outside⟩ := not_or.mp leaves
  have leaves := Bool.eq_false_iff.mpr outside
  exact ⟨row_switchTo_of_leaves present leaves, vetoes_switchTo_of_leaves present leaves,
    readers l (readers_switchTo p present leaves)⟩

/-- A switch leaves no lane ready where none was and none was LINKED. -/
theorem readyForAdmission_switchTo (waits : b.readyForAdmission l = false) (unlinked : b.laneState l ≠ .linked) :
    (b.switchTo p).readyForAdmission l = false := by
  by_cases stays : b.laneState l = .absent ∨ (decodeConfig p.image).enrolled.has l = true
  · have row := row_switchTo_of_stays stays unlinked
    have state : (b.switchTo p).laneState l = b.laneState l := by
      rw [laneState, row]
      rfl
    have returns : ((b.switchTo p).lanes.row l).returnPending = (b.lanes.row l).returnPending := by
      rw [row]
    rw [← waits]
    simp only [readyForAdmission, state, returns]
  · obtain ⟨present, outside⟩ := not_or.mp stays
    have state : (b.switchTo p).laneState l = .absent :=
      congrArg LaneRecord.state (row_switchTo_of_leaves present (Bool.eq_false_iff.mpr outside))
    simp only [readyForAdmission, state]

theorem laneState_switchTo_eq_voting_iff (b : Blocks) (p : PendingRecord) (l : Lane) :
    (b.switchTo p).laneState l = .voting ↔
      b.laneState l = .voting ∧ (decodeConfig p.image).enrolled.has l = true := by
  rw [laneState_switchTo]
  by_cases enrolled : (decodeConfig p.image).enrolled.has l = true
  · by_cases linked : b.laneState l = .linked
    · simp [switchedState, enrolled, linked]
    · simp [switchedState, enrolled, linked]
  · simp [switchedState, enrolled]

/-- A close in RUNNING at which a switch is pending: the count is compared with the new Q (05 R84). -/
theorem switchAtClose_of_pending (running : b.device = .running) (pending : b.pendingRecord = some p) :
    b.switchAtClose = if (b.switchTo p).hasQuorum = true then b.switchTo p else (b.switchTo p).safeHoldSteps := by
  simp only [switchAtClose, running, pending]

/-- In SAFE_HOLD every drive is at fallback (01 R8, 05 R82). -/
theorem drive_heldInputs (b : Blocks) (c : Channel) : (b.heldInputs.refreshOutputs.channelOutput c).drive =
    if (b.entry c).type = .unused then ⟨.unused, 0⟩ else ⟨(b.entry c).type, (b.entry c).fallback⟩ := by
  have idle : b.heldInputs.device ≠ .running := by simp [heldInputs]
  rw [channelOutput_refreshOutputs, refreshedOutput_drive, driveOf_of_idle idle]
  rfl

end Blocks

/-- The blocks `taken` are `b` after a close that strikes no lane out and admits none, before a switch; no lane is LINKED. -/
structure QuietClose (b taken : Blocks) : Prop where
  device : taken.device = b.device
  record : taken.lockoutRecord = b.lockoutRecord
  vote : taken.vote = b.committedVote
  active : taken.active = b.active
  pending : taken.pendingRecord = b.pendingRecord
  rows : ∀ l, taken.lanes.row l = { b.lanes.row l with strikes := strikesAfter b l }
  vetoes : taken.output.vetoes = b.output.vetoes
  ballots : taken.ballots = b.ballots
  fault : ∀ c, taken.fault c = b.fault c
  notices : taken.notices = posted b.vote.nextRound b.notices (closeNotices b)
  waits : ∀ l, taken.readyForAdmission l = false
  unlinked : ∀ l, b.laneState l ≠ .linked

theorem quietClose_reportTaken {b : Blocks} (struck : ∀ l, ¬ StruckOut b l) (ready : ∀ l, b.readyForAdmission l = false)
    (unlinked : ∀ l, b.laneState l ≠ .linked) : QuietClose b b.reportTaken := by
  obtain ⟨device, record, vote, active, pending⟩ := b.reportTaken_kept
  have waits := b.readyForAdmission_reportTaken
  rw [Blocks.reportTaken_of_none struck ready] at *
  rw [Blocks.commitRound_eq] at *
  exact { device, record, vote, active, pending, waits, unlinked
          rows := fun l => (Table.row_build _ l).trans (if_neg (struck l)), vetoes := rfl, ballots := rfl
          fault := fun c => b.committedInputs.fault_refreshOutputs c, notices := rfl }

namespace QuietClose

variable {b taken : Blocks}

theorem state (h : QuietClose b taken) (l : Lane) : taken.laneState l = b.laneState l := by
  rw [Blocks.laneState, h.rows]
  rfl

/-- What the switch leaves of a lane, read where its lanes, vetoes and absent readers stand. -/
theorem switched_lane (h : QuietClose b taken) {p : PendingRecord} {d : Blocks}
    (lanes : d.lanes = (taken.switchTo p).lanes) (vetoes : d.output.vetoes = (taken.switchTo p).output.vetoes)
    (readers : ∀ l, (taken.switchTo p).notices.readers.row l = none → d.notices.readers.row l = none) (l : Lane) :
    ((b.laneState l = .absent ∨ (decodeConfig p.image).enrolled.has l = true) →
      d.lanes.row l = { b.lanes.row l with strikes := 0 } ∧ ∀ c, (d.output.vetoes.row l).has c
        = ((b.output.vetoes.row l).has c && decide (((decodeConfig p.image).entries.row c).type ≠ .unused))) ∧
    (¬ (b.laneState l = .absent ∨ (decodeConfig p.image).enrolled.has l = true) →
      d.laneState l = .absent ∧ (d.lanes.row l).strikes = 0 ∧ (d.lanes.row l).lease = none ∧
      (d.lanes.row l).grace = none ∧ d.output.vetoes.row l = 0 ∧ d.notices.readers.row l = none) := by
  obtain ⟨kept, left⟩ := Blocks.switchTo_follows lanes vetoes readers l
  rw [h.state, h.vetoes, h.rows] at kept
  rw [h.state] at left
  refine ⟨fun stay => kept stay (h.unlinked l), fun leaves => ?_⟩
  obtain ⟨row, veto, reader⟩ := left leaves
  rw [Blocks.laneState, row]
  exact ⟨rfl, rfl, rfl, rfl, veto, reader⟩

theorem hasQuorum_switched (h : QuietClose b taken) (p : PendingRecord) : (taken.switchTo p).hasQuorum = true ↔
    (decodeConfig p.image).quorum ≤ (List.finRange 4).countP fun l =>
      decide (b.laneState l = .voting ∧ (decodeConfig p.image).enrolled.has l = true) := by
  have votes := Blocks.votingCount_eq_countP (b := taken.switchTo p) (p := fun l =>
      decide (b.laneState l = .voting ∧ (decodeConfig p.image).enrolled.has l = true)) fun l => by
    rw [Blocks.laneState_switchTo_eq_voting_iff, h.state, decide_eq_true_eq]
  have config : (taken.switchTo p).config = decodeConfig p.image := by simp [Blocks.config]
  rw [Blocks.hasQuorum_iff, votes, config]

/-- The notices up to the switch where it moves no lane (02 R36, 07 R124). -/
theorem notices_switched (h : QuietClose b taken) {p : PendingRecord}
    (all : ∀ l, b.laneState l = .absent ∨ (decodeConfig p.image).enrolled.has l = true) :
    (taken.switchTo p).notices = posted b.vote.nextRound b.notices (closeNotices b
      ++ [.configSwitched (b.active.map ActiveConfig.digest) p.digest]
      ++ b.ballots.map fun x => .ballotEnded x.slot x.action .discarded x.supporters) := by
  have aligned (l : Lane) : taken.laneState l = .absent ∨
      ((decodeConfig p.image).enrolled.has l = true ∧ taken.laneState l ≠ .linked) := by
    rw [h.state]
    exact (all l).imp_right fun enrolled => ⟨enrolled, h.unlinked l⟩
  have stamp : taken.vote.lastEnded = b.vote.nextRound := by rw [h.vote, Blocks.lastEnded_committedVote]
  rw [Blocks.notices_switchTo aligned, stamp, h.notices, h.active, h.ballots]
  simp only [posted_append, posted_cons, posted_nil]

/-- The round that stands open at the switch, at the new fallback image. -/
theorem vote_switched (h : QuietClose b taken) (p : PendingRecord) :
    (∀ c, (taken.switchTo p).vote.channels.row c = ⟨((decodeConfig p.image).entries.row c).fallback, 0, false, false⟩) ∧
    (taken.switchTo p).vote.openRound = .idle ∧ (taken.switchTo p).vote.nextRound = b.vote.nextRound + 1 ∧
    (taken.switchTo p).vote.deadline = none ∧ (taken.switchTo p).vote.proposers = 0 ∧
    ∀ m c, ((taken.switchTo p).vote.proposals.row m).row c = none := by
  rw [taken.vote_switchTo p, h.vote]
  exact ⟨Table.row_build _, rfl, rfl, rfl, rfl, Blocks.proposals_emptyProposals b.committedInputs.vote⟩

theorem fault_switched (h : QuietClose b taken) (p : PendingRecord) (c : Channel) : (taken.switchTo p).fault c =
    if ((decodeConfig p.image).entries.row c).type = b.channelType c then b.fault c else .none := by
  rw [Blocks.fault_switchTo, Blocks.channelType_congr h.active, h.fault]

theorem waits_switched (h : QuietClose b taken) (p : PendingRecord) (l : Lane) :
    (taken.switchTo p).readyForAdmission l = false :=
  Blocks.readyForAdmission_switchTo (h.waits l) (by rw [h.state]; exact h.unlinked l)

end QuietClose

/-- SAFE_HOLD entered with the agreed image already at fallback and no lane ready (05 R82). -/
theorem held_follows {t switched : Blocks} {image : Channel → Nat} (isOpen : switched.vote.openRound ≠ .none)
    (ready : ∀ l, switched.readyForAdmission l = false) (blocks : t = switched.safeHoldSteps)
    (fallback : ∀ c, switched.fallback c = image c)
    (channels : ∀ c, switched.vote.channels.row c = ⟨image c, 0, false, false⟩) :
    t.device = .safeHold ∧ t.active = switched.active ∧ t.pendingRecord = switched.pendingRecord ∧
    t.ballots = switched.ballots ∧ t.lockoutRecord = switched.lockoutRecord ∧ t.failn = switched.failn ∧
    (∀ c, t.vote.channels.row c = ⟨image c, 0, false, false⟩) ∧ t.vote.openRound = .none ∧
    t.vote.nextRound = switched.vote.nextRound + 1 ∧ t.vote.deadline = none ∧ t.vote.proposers = 0 ∧
    (∀ m c, (t.vote.proposals.row m).row c = none) ∧ t.lanes = switched.lanes ∧
    t.output.vetoes = switched.output.vetoes ∧
    t.notices = switched.notices.post switched.vote.nextRound (.stateChange .running .safeHold .quorumLost) ∧
    ∀ c, t.fault c = switched.fault c ∧ (t.channelOutput c).drive = if (switched.entry c).type = .unused
      then ⟨.unused, 0⟩ else ⟨(switched.entry c).type, (switched.entry c).fallback⟩ := by
  rw [Blocks.safeHoldSteps_of_none isOpen ready] at blocks
  rw [blocks]
  refine ⟨rfl, rfl, rfl, rfl, rfl, rfl, fun c => ?_, rfl, rfl, rfl, rfl, Blocks.proposals_emptyProposals switched.vote, rfl,
    rfl, rfl, fun c => ⟨switched.heldInputs.fault_refreshOutputs c, switched.drive_heldInputs c⟩⟩
  refine (Table.row_build _ c).trans ?_
  rw [channels, fallback]

/-- Settles O36: the round committed, the switch, the count compared with the new Q. -/
theorem pendingSwitchAtClose : Obligations.PendingSwitchAtClose := by
  intro s a p due running active pending quorate quiet below new stays count changes
  have struck := Blocks.not_struckOut_of_below below
  have close := quietClose_reportTaken struck (fun l => (quiet l).left) fun l => (quiet l).right
  have enough := Blocks.hasQuorum_reportTaken struck quorate
  have closed := s.toBlocks.closeRound_none_eq
  obtain ⟨t, done, outside, staging, blocks⟩ := exec_deadline_follows due none
  refine ⟨t, done, outside, staging, ?_⟩
  rw [closed] at blocks
  generalize s.toBlocks.reportTaken = taken at *
  rw [Blocks.reportCount_of_quorate (close.device.trans running) enough,
    Blocks.switchAtClose_of_pending (close.device.trans running) (close.pending.trans pending)] at blocks
  have lanes := @QuietClose.switched_lane _ _ close p
  have quorum := close.hasQuorum_switched p
  obtain ⟨channels, idle, round, deadline, proposers, proposals⟩ := close.vote_switched p
  have drives := taken.drive_after_switchTo p
  have faults := close.fault_switched p
  have failn := Blocks.failn_switchTo (b := taken) (by rw [close.device, running]; decide) p
  have posts := @QuietClose.notices_switched _ _ close p
  have ready := close.waits_switched p
  have noBallots := taken.ballots_switchTo p
  have entry (c : Channel) : (taken.switchTo p).entry c = new.entries.row c := by simp [Blocks.entry, Blocks.config, new]
  obtain ⟨device, record, active', pending', -⟩ := taken.switchTo_kept p
  rw [active] at posts
  generalize taken.switchTo p = switched at *
  by_cases sufficient : new.quorum ≤ count
  · rw [if_pos (quorum.mpr sufficient)] at blocks
    rw [blocks]
    exact ⟨active', pending', noBallots, record.trans close.record, channels, proposers, proposals, deadline,
      lanes rfl rfl fun _ => id, fun c => ⟨faults c, drives c⟩, failn,
      fun _ => ⟨(device.trans close.device).trans running, idle, round, posts⟩,
      fun few => absurd few (Nat.not_lt.mpr sufficient)⟩
  · rw [if_neg (mt quorum.mp sufficient)] at blocks
    obtain ⟨safeHold, active'', pending'', ballots, record', failn', channels', none_open, round', deadline', proposers',
      proposals', rows, vetoes, notices, outputs⟩ := held_follows (by rw [idle]; decide) ready blocks
        (fun c => congrArg ChannelEntry.fallback (entry c)) channels
    have readers (l : Lane) (gone : switched.notices.readers.row l = none) : t.notices.readers.row l = none := by
      rw [notices]
      exact readers_posted_of_none gone switched.vote.nextRound [_]
    refine ⟨active''.trans active', pending''.trans pending', ballots.trans noBallots,
      record'.trans (record.trans close.record), channels', proposers', proposals', deadline', lanes rows vetoes readers,
      fun c => ?_, ?_, fun enough => absurd enough sufficient,
      fun _ => ⟨safeHold, none_open, by rw [round', round], fun all => by rw [notices, posts all, round]; rfl⟩⟩
    · obtain ⟨fault, drive⟩ := outputs c
      rw [entry] at drive
      exact ⟨fault.trans (faults c), drive⟩
    · have same (c : Channel) : t.fault c = switched.fault c := by
        obtain ⟨fault, -⟩ := outputs c
        exact fault
      rw [failn', failn]
      simp only [same]

end Sys2Proof.Machine
end

section
/-! # A lane that leaves takes the count below Q (05 R79, R82, 07 R124) -/

namespace Sys2Proof.Machine

/-- The blocks `moved` are `b` after the VOTING lane `l` has left VOTING with the record `gone` (04 R73): `readers` are the
notices with the readers that stay, `vetoes` the veto sets that stand. -/
structure LeftVoting (b : Blocks) (l : Lane) (gone : LaneRecord) (cause : MemberCause) (readers : NoticeUnit)
    (vetoes : Table 4 ChannelSet) (moved : Blocks) : Prop where
  voting : b.laneState l = .voting
  device : moved.device = b.device
  record : moved.lockoutRecord = b.lockoutRecord
  failn : moved.failn = b.failn
  vote : moved.vote = b.vote
  lanes : moved.lanes = b.lanes.put l gone
  active : moved.active = b.active
  pending : moved.pendingRecord = b.pendingRecord
  ballots : moved.ballots = ballotsStill b.ballots l
  notices : moved.notices = posted b.vote.lastEnded readers
    (.memberChange l .voting gone.state cause :: abandonedNotices b.ballots l)
  vetoes : moved.output.vetoes = vetoes
  fault : ∀ c, moved.fault c = b.fault c
  readback : ∀ c, (moved.channelOutput c).readback = (b.channelOutput c).readback
  waits : gone.state = .absent ∨ (gone.state = .suspect ∧ gone.returnPending = false)

/-- The lane records at SAFE_HOLD entry, lane `l` having left VOTING: every ready lane is admitted. -/
def enteredRow (b : Blocks) (l : Lane) (gone : LaneRecord) (m : Lane) : LaneRecord :=
  if m = l then gone
  else if b.readyForAdmission m = true then { b.lanes.row m with state := .voting, returnPending := false }
  else b.lanes.row m

theorem state_enteredRow_ne_linked {b : Blocks} {l m : Lane} {gone : LaneRecord}
    (waits : gone.state = .absent ∨ (gone.state = .suspect ∧ gone.returnPending = false))
    (before : b.laneState m ≠ .linked) : (enteredRow b l gone m).state ≠ .linked := by
  unfold enteredRow
  split
  · rcases waits with absent | ⟨suspect, -⟩
    · simp [absent]
    · simp [suspect]
  · split
    · simp
    · exact before

namespace LeftVoting

variable {b moved : Blocks} {l : Lane} {gone : LaneRecord} {cause : MemberCause} {readers : NoticeUnit}
  {vetoes : Table 4 ChannelSet}

theorem suspect {r : LaneRecord} (voting : b.laneState l = .voting) (suspect : r.state = .suspect)
    (waits : r.returnPending = false) (cause : MemberCause) :
    LeftVoting b l r cause b.notices b.output.vetoes (b.moveLane l r cause true) := by
  rw [Blocks.moveLane_suspect voting suspect]
  exact { voting := voting, device := rfl, record := rfl, failn := rfl, vote := rfl, lanes := rfl, active := rfl, pending := rfl
          ballots := rfl, notices := by rw [suspect], vetoes := rfl, fault := fun _ => rfl, readback := fun _ => rfl
          waits := .inr ⟨suspect, waits⟩ }

theorem absent {r : LaneRecord} (voting : b.laneState l = .voting) (absent : r.state = .absent) (cause : MemberCause) :
    LeftVoting b l r cause (b.notices.leaveReader l) (b.output.vetoes.put l 0) (b.moveLane l r cause true) := by
  rw [Blocks.moveLane_absent_of_supporter (.inl voting) absent]
  exact { voting := voting, device := rfl, record := rfl, failn := rfl, vote := rfl, lanes := rfl, active := rfl, pending := rfl
          ballots := rfl, notices := by rw [absent, voting], vetoes := rfl
          fault := fun c => (b.vetoless l r).fault_refreshOutputs c
          readback := fun c => (congrArg ChannelOutput.readback ((b.vetoless l r).channelOutput_refreshOutputs c)).trans
            ((b.vetoless l r).readback_refreshedOutput c)
          waits := .inl absent }

theorem waits_moved (h : LeftVoting b l gone cause readers vetoes moved) : moved.readyForAdmission l ≠ true := by
  have row : moved.lanes.row l = gone := by rw [h.lanes, Table.row_put_self]
  rw [Ne, Blocks.readyForAdmission_iff, Blocks.laneState, row]
  rcases h.waits with absent | ⟨suspect, returns⟩
  · simp [absent]
  · simp [suspect, returns]

/-- The lane that has left is not ready, each other lane is as it was. -/
theorem admittedRow (h : LeftVoting b l gone cause readers vetoes moved) (m : Lane) :
    moved.admittedRow m = enteredRow b l gone m := by
  by_cases same : m = l
  · subst same
    have row : moved.lanes.row m = gone := by rw [h.lanes, Table.row_put_self]
    rw [Blocks.admittedRow, if_neg h.waits_moved, row, enteredRow, if_pos rfl]
  · have row : moved.lanes.row m = b.lanes.row m := by rw [h.lanes, Table.row_put_of_ne _ (Ne.symm same)]
    rw [Blocks.admittedRow_congr row, enteredRow, if_neg same]
    rfl

theorem admissionNotices (h : LeftVoting b l gone cause readers vetoes moved) :
    moved.admissionNotices = b.admissionNotices := by
  refine List.filterMap_congr fun m _ => ?_
  by_cases same : m = l
  · subst same
    have other : b.readyForAdmission m ≠ true := fun ready => Blocks.not_voting_of_ready ready h.voting
    rw [Blocks.admissionNotice_of_not_ready h.waits_moved, Blocks.admissionNotice_of_not_ready other]
  · exact Blocks.admissionNotice_congr (by rw [h.lanes, Table.row_put_of_ne _ (Ne.symm same)])

/-! ## SAFE_HOLD entry up to its switch -/

/-- The lanes, notices and outputs at SAFE_HOLD entry, before a pending switch. -/
theorem held (h : LeftVoting b l gone cause readers vetoes moved) (isOpen : b.vote.openRound ≠ .none) :
    moved.safeHoldSteps = { moved.heldInputs.refreshOutputs with
      lanes := Table.build (enteredRow b l gone)
      notices := posted b.vote.nextRound (posted b.vote.lastEnded readers
        (.memberChange l .voting gone.state cause :: abandonedNotices b.ballots l))
        (.stateChange .running .safeHold .quorumLost :: b.admissionNotices) } := by
  have rows : moved.admittedRow = enteredRow b l gone := funext h.admittedRow
  rw [Blocks.safeHoldSteps_of_open (by rwa [h.vote]), rows, h.admissionNotices, h.notices, h.vote]

/-- The drives of SAFE_HOLD entry (01 R8). -/
def heldDrive (b : Blocks) (c : Channel) : Drive :=
  if b.channelType c = .unused then ⟨.unused, 0⟩ else ⟨b.channelType c, b.fallback c⟩

theorem outputs_held (h : LeftVoting b l gone cause readers vetoes moved) (c : Channel) :
    moved.heldInputs.refreshOutputs.fault c = b.fault c ∧
    (moved.heldInputs.refreshOutputs.channelOutput c).drive = heldDrive b c ∧
    (moved.heldInputs.refreshOutputs.channelOutput c).readback = (b.channelOutput c).readback ∧
    (moved.heldInputs.refreshOutputs.channelOutput c).settle = settleAfter (moved.channelOutput c).drive
      (moved.channelOutput c).settle (heldDrive b c) (b.entry c).settleTime := by
  have drive : moved.heldInputs.driveOf c = heldDrive b c := by
    have recomputed := moved.drive_heldInputs c
    rw [Blocks.channelOutput_refreshOutputs, Blocks.refreshedOutput_drive, Blocks.entry_congr h.active] at recomputed
    exact recomputed
  have entry : moved.heldInputs.entry c = b.entry c := Blocks.entry_congr (d := b) h.active c
  rw [Blocks.channelOutput_refreshOutputs, Blocks.fault_refreshOutputs, Blocks.refreshedOutput_drive,
    Blocks.readback_refreshedOutput, Blocks.settle_refreshedOutput, drive, entry]
  exact ⟨h.fault c, rfl, h.readback c, rfl⟩

theorem vote_held (h : LeftVoting b l gone cause readers vetoes moved) : moved.heldInputs.vote = {
    Blocks.emptyProposals b.vote with
    nextRound := b.vote.nextRound + 1, openRound := .none, deadline := none
    channels := Table.build fun c => { b.vote.channels.row c with agreed := b.fallback c } } := by
  have fallback : moved.fallback = b.fallback := funext fun c => Blocks.fallback_congr h.active c
  have vote : moved.heldInputs.vote = moved.heldVote := rfl
  rw [vote, Blocks.heldVote, h.vote, fallback]

/-- The notices of the event up to a pending switch, in their order (04 R73, 05 R82, 06 R105). -/
def heldNotices (b : Blocks) (l : Lane) (gone : LaneRecord) (cause : MemberCause) (readers : NoticeUnit) : NoticeUnit :=
  posted b.vote.nextRound (posted b.vote.lastEnded readers
    (.memberChange l .voting gone.state cause :: abandonedNotices b.ballots l))
    (.stateChange .running .safeHold .quorumLost :: b.admissionNotices)

theorem held_kept (h : LeftVoting b l gone cause readers vetoes moved) (isOpen : b.vote.openRound ≠ .none) :
    moved.safeHoldSteps.device = .safeHold ∧ moved.safeHoldSteps.lockoutRecord = b.lockoutRecord ∧
    moved.safeHoldSteps.pendingRecord = b.pendingRecord ∧ moved.safeHoldSteps.active = b.active ∧
    moved.safeHoldSteps.failn = b.failn ∧ moved.safeHoldSteps.ballots = ballotsStill b.ballots l ∧
    moved.safeHoldSteps.output.vetoes = vetoes ∧
    moved.safeHoldSteps.notices = heldNotices b l gone cause readers ∧
    (∀ m, moved.safeHoldSteps.lanes.row m = enteredRow b l gone m) ∧
    moved.safeHoldSteps.vote = {
      Blocks.emptyProposals b.vote with
      nextRound := b.vote.nextRound + 1, openRound := .none, deadline := none
      channels := Table.build fun c => { b.vote.channels.row c with agreed := b.fallback c } } ∧
    ∀ c, moved.safeHoldSteps.fault c = b.fault c ∧
      (moved.safeHoldSteps.channelOutput c).drive = heldDrive b c ∧
      (moved.safeHoldSteps.channelOutput c).readback = (b.channelOutput c).readback ∧
      (moved.safeHoldSteps.channelOutput c).settle = settleAfter (moved.channelOutput c).drive
        (moved.channelOutput c).settle (heldDrive b c) (b.entry c).settleTime := by
  rw [h.held isOpen]
  exact ⟨rfl, h.record, h.pending, h.active, h.failn, h.ballots, h.vetoes, rfl, Table.row_build _, h.vote_held,
    h.outputs_held⟩

end LeftVoting

theorem Blocks.carryOutPending_of_none {b : Blocks} (none : b.pendingRecord = none) : b.carryOutPending = b := by
  rw [carryOutPending, none]

theorem Blocks.carryOutPending_of_some {b : Blocks} {p : PendingRecord} (set : b.pendingRecord = some p) :
    b.carryOutPending = b.switchTo p := by
  rw [carryOutPending, set]

/-- The move of a VOTING lane that takes the count below Q brings SAFE_HOLD (05 R79). -/
theorem laneEvent_of_lost {b : Blocks} {l : Lane} {gone : LaneRecord} {cause : MemberCause} (running : b.device = .running)
    (voting : b.laneState l = .voting) (leaves : gone.state ≠ .voting) (few : b.votingCount ≤ b.config.quorum)
    (e : Option Evaluation) :
    b.laneEvent l gone cause e = (b.moveLane l gone cause true).safeHoldSteps.carryOutPending := by
  have lost := mt (Blocks.hasQuorum_moveLane_iff voting leaves cause true).mp (Nat.not_lt.mpr few)
  have device : (b.moveLane l gone cause true).device = .running := by simpa using running
  have stands : (b.moveLane l gone cause true).retest e = b.moveLane l gone cause true :=
    if_neg fun ⟨_, quorate, _⟩ => lost quorate
  rw [Blocks.laneEvent_of_voting voting, stands, Blocks.reportCount, device]
  exact if_neg lost

namespace LeftVoting

variable {b moved : Blocks} {l : Lane} {gone : LaneRecord} {cause : MemberCause} {readers : NoticeUnit}
  {vetoes : Table 4 ChannelSet} {p : PendingRecord}

/-! ## The pending switch that ends the entry (07 R124) -/

theorem fault_switched (h : LeftVoting b l gone cause readers vetoes moved) (isOpen : b.vote.openRound ≠ .none)
    (c : Channel) : (moved.safeHoldSteps.switchTo p).fault c =
      if ((decodeConfig p.image).entries.row c).type = b.channelType c then b.fault c else .none := by
  obtain ⟨-, -, -, active, -, -, -, -, -, -, outputs⟩ := h.held_kept isOpen
  obtain ⟨fault, -⟩ := outputs c
  rw [Blocks.fault_switchTo, Blocks.channelType_congr active c, fault]

/-- The new configuration keeps the lane as it entered SAFE_HOLD, or the lane is ABSENT. -/
abbrev StaysEntered (b : Blocks) (l : Lane) (gone : LaneRecord) (p : PendingRecord) (m : Lane) : Prop :=
  (enteredRow b l gone m).state = .absent ∨ (decodeConfig p.image).enrolled.has m = true

theorem lane_switched (h : LeftVoting b l gone cause readers vetoes moved) (isOpen : b.vote.openRound ≠ .none) (m : Lane) :
    (StaysEntered b l gone p m → b.laneState m ≠ .linked →
      (moved.safeHoldSteps.switchTo p).lanes.row m = { enteredRow b l gone m with strikes := 0 } ∧
      ∀ c, ((moved.safeHoldSteps.switchTo p).output.vetoes.row m).has c
        = ((vetoes.row m).has c && decide (((decodeConfig p.image).entries.row c).type ≠ .unused))) ∧
    (¬ StaysEntered b l gone p m →
      (moved.safeHoldSteps.switchTo p).lanes.row m = { Blocks.absentRecord (enteredRow b l gone m) with strikes := 0 } ∧
      (moved.safeHoldSteps.switchTo p).output.vetoes.row m = 0 ∧
      (moved.safeHoldSteps.switchTo p).notices.readers.row m = none) := by
  obtain ⟨-, -, -, -, -, -, vetoes', -, rows, -⟩ := h.held_kept isOpen
  have state : moved.safeHoldSteps.laneState m = (enteredRow b l gone m).state := congrArg LaneRecord.state (rows m)
  obtain ⟨kept, left⟩ := Blocks.switchTo_follows (b := moved.safeHoldSteps) (p := p) rfl rfl (fun _ => id) m
  rw [state, rows, vetoes'] at kept
  rw [state, rows] at left
  exact ⟨fun stay before => kept stay (state_enteredRow_ne_linked h.waits before), left⟩

theorem notices_switched (h : LeftVoting b l gone cause readers vetoes moved) (isOpen : b.vote.openRound ≠ .none)
    (all : ∀ m, StaysEntered b l gone p m ∧ b.laneState m ≠ .linked) : (moved.safeHoldSteps.switchTo p).notices =
      posted b.vote.nextRound (heldNotices b l gone cause readers)
        (.configSwitched (b.active.map ActiveConfig.digest) p.digest :: (ballotsStill b.ballots l).map
          fun x => .ballotEnded x.slot x.action .discarded x.supporters) := by
  obtain ⟨-, -, -, active, -, ballots, -, notices, rows, vote, -⟩ := h.held_kept isOpen
  have aligned (m : Lane) : moved.safeHoldSteps.laneState m = .absent ∨
      ((decodeConfig p.image).enrolled.has m = true ∧ moved.safeHoldSteps.laneState m ≠ .linked) := by
    obtain ⟨stay, before⟩ := all m
    rw [Blocks.laneState, rows]
    exact stay.imp_right fun enrolled => ⟨enrolled, state_enteredRow_ne_linked h.waits before⟩
  have stamp : moved.safeHoldSteps.vote.lastEnded = b.vote.nextRound := by
    rw [vote]
    exact BitVec.add_sub_cancel ..
  rw [Blocks.notices_switchTo aligned, stamp, notices, active, ballots]

/-- A drive that changes at the entry and again at the switch starts its settle each time (01 R10). -/
theorem settle_carried (h : LeftVoting b l gone cause readers vetoes moved) (isOpen : b.vote.openRound ≠ .none)
    {d : Blocks} (blocks : d = moved.safeHoldSteps.carryOutPending) (c : Channel) : (d.channelOutput c).settle =
      if b.pendingRecord = none then (moved.safeHoldSteps.channelOutput c).settle
      else settleAfter (heldDrive b c) (moved.safeHoldSteps.channelOutput c).settle (d.channelOutput c).drive
        (d.entry c).settleTime := by
  obtain ⟨-, -, pending, -, -, -, -, -, -, -, outputs⟩ := h.held_kept isOpen
  obtain ⟨-, drive, -⟩ := outputs c
  cases set : b.pendingRecord with
  | none =>
    rw [Blocks.carryOutPending_of_none (pending.trans set)] at blocks
    rw [blocks, if_pos rfl]
  | some p =>
    rw [Blocks.carryOutPending_of_some (pending.trans set)] at blocks
    have new : (moved.safeHoldSteps.switchTo p).entry c = (decodeConfig p.image).entries.row c := by
      simp [Blocks.entry, Blocks.config]
    rw [blocks, Blocks.settle_switchTo, drive, new, if_neg (by simp)]

end LeftVoting

/-- The lease that expires touches nothing outside the blocks. -/
theorem exec_lease_follows {s : State} {l : Lane} (due : s.timer (.lease l) = some 0) (e : Option Evaluation) :
    ∃ t, exec (.leaseExpiry l e) s = .next t ∧ OutsideKept s t ∧ t.staging = s.staging ∧
      t.toBlocks = s.toBlocks.leaseExpires l e := by
  have done := exec_lease_due due e
  generalize s.toBlocks.leaseExpires l e = b at done ⊢
  exact ⟨_, done, ⟨rfl, rfl, rfl⟩, rfl, rfl⟩

/-- Settles O31: the count below Q brings SAFE_HOLD, and a pending switch ends the entry. -/
theorem lostQuorumEntersSafeHold : Obligations.LostQuorumEntersSafeHold := by
  intro s l e running voting few isOpen suspect absentOf left still unsupported admissions held enters
  have enters_of {t : State} {gone : LaneRecord} {cause : MemberCause} {readers : NoticeUnit}
      {vetoes : Table 4 ChannelSet} {moved : Blocks} (h : LeftVoting s.toBlocks l gone cause readers vetoes moved)
      (outside : OutsideKept s t) (staging : t.staging = s.staging)
      (blocks : t.toBlocks = moved.safeHoldSteps.carryOutPending) : enters t gone cause readers vetoes := by
    obtain ⟨device, record, pending, active, failn, ballots, vetoes', notices, rows, vote, outputs⟩ := h.held_kept isOpen
    have fault (p : PendingRecord) := h.fault_switched (p := p) isOpen
    have lanes (p : PendingRecord) := h.lane_switched (p := p) isOpen
    have posts (p : PendingRecord) := h.notices_switched (p := p) isOpen
    generalize moved.safeHoldSteps = entry at *
    cases none_or : s.pendingRecord with
    | none =>
      rw [Blocks.carryOutPending_of_none (pending.trans none_or)] at blocks
      refine ⟨outside, staging, ?_⟩
      rw [blocks, vote]
      refine ⟨device, record, pending.trans none_or, rfl, rfl, rfl, rfl, Blocks.proposals_emptyProposals s.vote, fun c => ?_,
        fun _ => ⟨active, ballots, vetoes', failn, notices, rows, fun c => ?_⟩, fun p set => ?_⟩
      · obtain ⟨-, -, readback, -⟩ := outputs c
        exact readback
      · obtain ⟨fault, drive, -⟩ := outputs c
        exact ⟨Table.row_build _ c, fault, drive⟩
      · cases none_or.symm.trans set
    | some p =>
      rw [Blocks.carryOutPending_of_some (pending.trans none_or)] at blocks
      obtain ⟨device', record', active', pending', -⟩ := entry.switchTo_kept p
      have vote' := entry.vote_switchTo p
      rw [vote] at vote'
      refine ⟨outside, staging, ?_⟩
      rw [blocks, vote']
      refine ⟨device'.trans device, record'.trans record, pending', rfl, rfl, rfl, rfl,
        Blocks.proposals_emptyProposals s.vote, fun c => ?_, fun unset => ?_, fun q set => ?_⟩
      · obtain ⟨-, -, readback, -⟩ := outputs c
        exact (entry.readback_switchTo p c).trans readback
      · cases none_or.symm.trans unset
      · obtain rfl : p = q := Option.some.inj (none_or.symm.trans set)
        exact ⟨active', entry.ballots_switchTo p, Blocks.failn_switchTo (by simp [device]) p, fun c => ⟨Table.row_build _ c,
          fault p c, entry.drive_after_switchTo p c⟩, lanes p, posts p⟩
  refine ⟨fun due => ?_, fun q takes => ?_⟩
  · have moves : s.toBlocks.leaseExpires l e = (s.toBlocks.moveLane l (s.toBlocks.suspected l) .leaseExpired
        true).safeHoldSteps.carryOutPending := by
      rw [Blocks.leaseExpires_of_voting voting, laneEvent_of_lost running voting (by simp [Blocks.suspected]) few]
    have gone : LeftVoting s.toBlocks l (s.toBlocks.suspected l) .leaseExpired s.notices s.output.vetoes
        (s.toBlocks.moveLane l (s.toBlocks.suspected l) .leaseExpired true) := .suspect voting rfl rfl _
    obtain ⟨t, done, outside, staging, blocks⟩ := exec_lease_follows due e
    rw [moves] at blocks
    refine ⟨t, done, enters_of gone outside staging blocks, fun c => ?_⟩
    have output : (s.toBlocks.moveLane l (s.toBlocks.suspected l) .leaseExpired true).channelOutput c
        = s.channelOutput c := by
      rw [Blocks.moveLane_suspect voting rfl]
      rfl
    obtain ⟨-, -, -, -, -, -, -, -, -, -, outputs⟩ := gone.held_kept isOpen
    obtain ⟨-, -, -, settle⟩ := outputs c
    have carried := gone.settle_carried isOpen blocks c
    rw [settle, output] at carried
    exact carried
  · have live : s.device ≠ .lockout := by simp [running]
    have moves : s.toBlocks.leave l e = ((s.toBlocks.moveLane l (Blocks.absentRecord (s.lanes.row l)) .left
        true).safeHoldSteps.carryOutPending, .accepted) := by
      rw [Blocks.leave_of_live live, voting,
        ← laneEvent_of_lost (e := e) running voting (by simp [Blocks.absentRecord]) few]
    obtain ⟨t, done, outside, staging, follows⟩ := exec_leave takes e
    obtain ⟨blocks, answered⟩ := follows moves
    exact ⟨t, done, answered, enters_of (.absent voting rfl .left) outside staging blocks⟩

end Sys2Proof.Machine
end

section
/-! # A round that closes by completeness (02 R23, R26) -/

namespace Sys2Proof.Machine

namespace Blocks

variable {b : Blocks} {l : Lane} {r : LaneRecord}

/-! ## What a close reads and leaves -/

/-- The blocks with the round's deadline and state as `v` has them. -/
def withRound (b : Blocks) (openRound : OpenRound) (deadline : Timer) : Blocks :=
  { b with vote := { b.vote with openRound := openRound, deadline := deadline } }

theorem evaluate_withRound (b : Blocks) (openRound : OpenRound) (deadline : Timer) :
    (b.withRound openRound deadline).evaluate = b.evaluate := rfl

theorem evaluatorsAgree_withRound (b : Blocks) (openRound : OpenRound) (deadline : Timer) (e : Option Evaluation) :
    (b.withRound openRound deadline).evaluatorsAgree e = b.evaluatorsAgree e := rfl

theorem commitRound_withRound (b : Blocks) (openRound : OpenRound) (deadline : Timer) (e : Evaluation) :
    (b.withRound openRound deadline).commitRound e = b.commitRound e := rfl

theorem enterLockout_withRound (b : Blocks) (openRound : OpenRound) (deadline : Timer) (cause : LockoutCause) :
    (b.withRound openRound deadline).enterLockout cause = b.enterLockout cause := rfl

/-- A close does not depend on what the round's timer and state are (02 R27). -/
theorem closeRound_withRound (b : Blocks) (openRound : OpenRound) (deadline : Timer) (e : Option Evaluation) :
    (b.withRound openRound deadline).closeRound e = b.closeRound e := by
  rw [closeRound, closeRound, evaluatorsAgree_withRound, evaluate_withRound, commitRound_withRound, enterLockout_withRound]

theorem reportCount_of_lockout (lockout : b.device = .lockout) : b.reportCount = b := by
  simp only [reportCount, lockout]

theorem switchAtClose_of_idle (idle : b.device ≠ .running) : b.switchAtClose = b := by
  unfold switchAtClose
  split
  · rename_i running _
    exact absurd running idle
  · rfl

/-- The count that a switch at the close leaves has been compared. -/
theorem reportCount_switchAtClose (running : b.device = .running) (quorate : b.hasQuorum = true) :
    b.switchAtClose.reportCount = b.switchAtClose := by
  cases pending : b.pendingRecord with
  | none => rw [switchAtClose_of_none pending, reportCount_of_quorate running quorate]
  | some p =>
    rw [switchAtClose_of_pending running pending]
    split
    · rename_i sufficient
      exact reportCount_of_quorate (by simpa using running) sufficient
    · exact reportCount_of_safeHold (by simp)

/-- A close in RUNNING compares the count last, so that a later report finds nothing to do (04 R67, 05 R79). -/
theorem reportCount_closeRound (running : b.device = .running) (e : Option Evaluation) :
    (b.closeRound e).reportCount = b.closeRound e := by
  unfold closeRound
  split
  · have device : ((b.commitRound b.evaluate).applyReport b.evaluate.report).device = .running := by
      obtain ⟨device, -⟩ := b.reportTaken_kept
      exact device.trans running
    rw [afterCommit]
    generalize (b.commitRound b.evaluate).applyReport b.evaluate.report = taken at device ⊢
    by_cases quorate : taken.hasQuorum = true
    · rw [reportCount_of_quorate device quorate, reportCount_switchAtClose device quorate]
    · have held : taken.reportCount = taken.enterSafeHold := by
        rw [reportCount, device]
        exact if_neg quorate
      rw [held, switchAtClose_of_idle (by simp), reportCount_of_safeHold taken.enterSafeHold_device]
  · exact reportCount_of_lockout (by simp)

/-! ## The lane that leaves -/

/-- The move of a VOTING lane out of VOTING does not depend on the round's state and timer. -/
theorem moveLane_withRound (voting : b.laneState l = .voting) (leaves : r.state = .suspect ∨ r.state = .absent)
    (cause : MemberCause) (openRound : OpenRound) (deadline : Timer) :
    (b.withRound openRound deadline).moveLane l r cause true = (b.moveLane l r cause true).withRound openRound deadline := by
  rcases leaves with suspect | absent
  · rw [moveLane_suspect voting suspect, moveLane_suspect (b := b.withRound openRound deadline) voting suspect]
    rfl
  · rw [moveLane_absent_of_supporter (.inl voting) absent,
      moveLane_absent_of_supporter (b := b.withRound openRound deadline) (.inl voting) absent]
    rfl

/-- The last lane that has not proposed leaves VOTING: the round closes (02 R26). -/
theorem laneEvent_of_completing (running : b.device = .running) (voting : b.laneState l = .voting)
    (leaves : r.state ≠ .voting) (collecting : b.vote.openRound = .collecting) (enough : b.config.quorum < b.votingCount)
    (others : ∀ m, m ≠ l → b.laneState m = .voting → b.vote.proposers.has m = true) (cause : MemberCause)
    (e : Option Evaluation) : b.laneEvent l r cause e = (b.moveLane l r cause true).closeRound e := by
  have quorate := (hasQuorum_moveLane_iff voting leaves cause true).mpr enough
  have vote : (b.moveLane l r cause true).vote = b.vote := by simp
  have complete : (b.moveLane l r cause true).complete = true := by
    rw [complete_iff, vote]
    intro m votes
    by_cases same : m = l
    · subst same
      exact absurd (by simpa using votes) leaves
    · exact others m same (by simpa [Ne.symm same] using votes)
  have closes : (b.moveLane l r cause true).retest e = (b.moveLane l r cause true).closeRound e :=
    if_pos ⟨by rw [vote, collecting], quorate, complete⟩
  rw [laneEvent_of_voting voting, closes, reportCount_closeRound (by simpa using running)]

/-- With the round still in OPEN_IDLE the lane leaves and nothing closes. -/
theorem laneEvent_of_still (running : b.device = .running) (voting : b.laneState l = .voting)
    (leaves : r.state = .suspect ∨ r.state = .absent) (enough : b.config.quorum < b.votingCount) (cause : MemberCause)
    (e : Option Evaluation) : (b.withRound .idle b.vote.deadline).laneEvent l r cause e
      = (b.moveLane l r cause true).withRound .idle b.vote.deadline := by
  have left : r.state ≠ .voting := by
    rcases leaves with state | state <;> simp [state]
  have quorate := (hasQuorum_moveLane_iff voting left cause true).mpr enough
  rw [laneEvent_of_voting (b := b.withRound .idle b.vote.deadline) voting, moveLane_withRound voting leaves,
    retest_of_not_collecting (by simp [withRound])]
  exact reportCount_of_quorate (b := (b.moveLane l r cause true).withRound .idle b.vote.deadline)
    (by simpa [withRound] using running) quorate

end Blocks

/-- The state in which the row of lane `l` is stored and the deadline of the round is due. -/
def storedState (s : State) (l : Lane) (row : ProposalRow) : State := { s with vote := { s.vote with
  proposals := s.vote.proposals.put l row, proposers := s.vote.proposers.insert l, openRound := .collecting
  deadline := some 0 } }

theorem timer_deadline_of_running {s : State} (running : s.inReset = false) : s.timer .deadline = s.vote.deadline := by
  simp [State.timer, running]

/-- A collecting round whose deadline is due closes as the blocks without that round's state do. -/
theorem exec_deadline_collecting {v : State} (outOfReset : v.inReset = false) (e : Option Evaluation) :
    ∃ u, exec (.roundDeadlineExpiry e) { v with vote := { v.vote with openRound := .collecting, deadline := some 0 } }
        = .next u ∧ u.toBlocks = v.toBlocks.closeRound e := by
  obtain ⟨u, done, -, -, blocks⟩ := exec_deadline_follows
    (s := { v with vote := { v.vote with openRound := .collecting, deadline := some 0 } })
    (timer_deadline_of_running outOfReset) e
  exact ⟨u, done, blocks.trans (v.toBlocks.closeRound_withRound .collecting (some 0) e)⟩

theorem inReset_of_outsideKept {s t : State} (outside : OutsideKept s t) : t.inReset = s.inReset := by
  obtain ⟨power, -⟩ := outside
  rw [State.inReset, power, State.inReset]

theorem outOfReset_of_timer {s : State} {name : TimerName} {n : Nat} (runs : s.timer name = some n) :
    s.inReset = false := by
  cases reset : s.inReset with
  | false => rfl
  | true => simp [State.timer, reset] at runs

/-- Settles O37: the PROPOSE or the departure that completes the round closes it as its deadline would. -/
theorem roundClosesByCompleteness : Obligations.RoundClosesByCompleteness := by
  refine ⟨?_, ?_⟩
  · intro s l q p entries e takes parsed running voting fresh isOpen others allowed different
    obtain ⟨row, listed, proposes⟩ := Blocks.propose_of_allowed running voting fresh isOpen allowed different
    obtain ⟨t, done, outside, staging, follows⟩ := exec_propose takes parsed e
    obtain ⟨blocks, answered⟩ := follows (proposes e)
    obtain ⟨outOfReset, -⟩ := takes
    obtain ⟨u, expired, -, -, closed⟩ := exec_deadline_follows (s := storedState s l row)
      (timer_deadline_of_running outOfReset) e
    have same : (storedState s l row).toBlocks = (s.toBlocks.proposed l row).withRound .collecting (some 0) := rfl
    have complete : (s.toBlocks.proposed l row).complete = true := by
      rw [Blocks.complete_iff]
      intro m votes
      by_cases own : m = l
      · simp [Blocks.proposed, IndexSet.has_insert, own]
      · simp [Blocks.proposed, IndexSet.has_insert, others m own votes]
    have closes : (s.toBlocks.proposed l row).closeIfComplete e = (s.toBlocks.proposed l row).closeRound e :=
      if_pos ⟨rfl, complete⟩
    refine ⟨t, u, storedState s l row, done, outside, staging, answered, ?_, fun c v => ?_, expired, ?_⟩
    · simp only [storedState, Table.row_put_self]
    · simp only [storedState, Table.row_put_self, listed]
    · rw [blocks, closes, closed, same, Blocks.closeRound_withRound]
  · intro s l e running voting collecting enough others still collected
    have same : still.toBlocks = s.toBlocks.withRound .idle s.vote.deadline := rfl
    refine ⟨fun q takes => ?_, fun due => ?_⟩
    · have live : s.device ≠ .lockout := by simp [running]
      have left : (Blocks.absentRecord (s.lanes.row l)).state ≠ .voting := by simp [Blocks.absentRecord]
      have leaves : s.toBlocks.leave l e
          = ((s.toBlocks.moveLane l (Blocks.absentRecord (s.lanes.row l)) .left true).closeRound e, .accepted) := by
        rw [Blocks.leave_of_live live, voting,
          ← Blocks.laneEvent_of_completing running voting left collecting enough others .left e]
      have leavesStill : still.toBlocks.leave l e = ((s.toBlocks.moveLane l (Blocks.absentRecord (s.lanes.row l)) .left
          true).withRound .idle s.vote.deadline, .accepted) := by
        have state : still.toBlocks.laneState l = .voting := voting
        have stands := Blocks.laneEvent_of_still (r := Blocks.absentRecord (s.lanes.row l)) running voting (.inr rfl) enough
          .left e
        rw [← stands, Blocks.leave_of_live (b := still.toBlocks) live, state]
        rfl
      obtain ⟨t, done, outside, staging, follows⟩ := exec_leave takes e
      obtain ⟨blocks, answered⟩ := follows leaves
      obtain ⟨v, doneStill, outsideStill, -, followsStill⟩ := exec_leave (s := still) takes e
      obtain ⟨blocksStill, -⟩ := followsStill leavesStill
      obtain ⟨outOfReset, -⟩ := takes
      obtain ⟨u, expired, closed⟩ := exec_deadline_collecting ((inReset_of_outsideKept outsideStill).trans outOfReset) e
      refine ⟨t, u, v, done, outside, staging, answered, doneStill, ?_, expired, ?_⟩
      · have gone : (s.toBlocks.moveLane l (Blocks.absentRecord (s.lanes.row l)) .left true).laneState l = .absent := by
          simp [Blocks.absentRecord]
        rw [blocksStill]
        exact gone
      · rw [blocks, closed, blocksStill, Blocks.closeRound_withRound]
    · have left : (s.toBlocks.suspected l).state ≠ .voting := by simp [Blocks.suspected]
      have stillSuspected : still.toBlocks.leaseExpires l e
          = (s.toBlocks.moveLane l (s.toBlocks.suspected l) .leaseExpired true).withRound .idle s.vote.deadline :=
        (Blocks.leaseExpires_of_voting (b := still.toBlocks) voting).trans
          (Blocks.laneEvent_of_still running voting (.inl rfl) enough .leaseExpired e)
      obtain ⟨t, done, outside, staging, blocks⟩ := exec_lease_follows due e
      obtain ⟨v, doneStill, outsideStill, -, blocksStill⟩ := exec_lease_follows (s := still) due e
      have outOfReset : still.inReset = false := outOfReset_of_timer (s := s) due
      obtain ⟨u, expired, closed⟩ := exec_deadline_collecting ((inReset_of_outsideKept outsideStill).trans outOfReset) e
      rw [stillSuspected] at blocksStill
      refine ⟨t, u, v, done, outside, staging, doneStill, ?_, expired, ?_⟩
      · have gone : (s.toBlocks.moveLane l (s.toBlocks.suspected l) .leaseExpired true).laneState l = .suspect := by
          simp [Blocks.suspected]
        rw [blocksStill]
        exact gone
      · rw [blocks, closed, blocksStill, Blocks.closeRound_withRound, Blocks.leaseExpires_of_voting voting,
          Blocks.laneEvent_of_completing running voting left collecting enough others]

end Sys2Proof.Machine
end

section
/-! # The first switch (05 R80, 06 R104, 07 R124) -/

namespace Sys2Proof.Machine

namespace Blocks

variable {b d : Blocks} {l m : Lane} {p : PendingRecord}

/-! ## LINKED lanes that a switch enrols -/

/-- The MEMBER_CHANGE of a LINKED lane that a switch makes CANDIDATE (04 R72). -/
def configuredNotice (b : Blocks) (l : Lane) : Option NoticeBody :=
  if b.laneState l = .linked then some (.memberChange l .linked .candidate .configured) else none

/-- A LINKED lane goes CANDIDATE (04 R72, R73). -/
theorem moveLane_configured {r : LaneRecord} (linked : b.laneState l = .linked) (candidate : r.state = .candidate)
    (cause : MemberCause) : b.moveLane l r cause false = { b with
      lanes := b.lanes.put l r
      ballots := ballotsStill b.ballots l
      notices := posted b.vote.lastEnded b.notices
        (.memberChange l .linked .candidate cause :: abandonedNotices b.ballots l) } := by
  simp [moveLane, vetoStep, losesVetoes, readerStep, supporterStep, candidate, linked, removeSupporter_all]

theorem switchLane_of_linked (linked : b.laneState l = .linked) (enrolled : b.config.enrolled.has l = true) :
    b.switchLane l = b.moveLane l { b.lanes.row l with state := .candidate, lease := some b.config.lease } .configured
      false := by
  have state : (b.lanes.row l).state = .linked := linked
  simp [switchLane, state, enrolled]

theorem switchLane_of_absent (absent : b.laneState l = .absent) : b.switchLane l = b := by
  have state : (b.lanes.row l).state = .absent := absent
  simp [switchLane, state]

/-- Where every lane is ABSENT, or LINKED and enrolled, and no ballot is open, a switch posts the MEMBER_CHANGEs of the
LINKED lanes alone. -/
theorem notices_foldl_switchLane {ls : List Lane} (once : ls.Nodup)
    (aligned : ∀ l ∈ ls, d.laneState l = .absent ∨ (d.laneState l = .linked ∧ d.config.enrolled.has l = true))
    (noBallot : d.ballots = []) :
    (ls.foldl switchLane d).notices = posted d.vote.lastEnded d.notices (ls.filterMap d.configuredNotice) := by
  induction ls generalizing d with
  | nil => rfl
  | cons l rest ih =>
    obtain ⟨alone, once⟩ := List.nodup_cons.mp once
    have later (m : Lane) (listed : m ∈ rest) := aligned m (List.mem_cons_of_mem l listed)
    rw [List.foldl_cons, List.filterMap_cons]
    rcases aligned l List.mem_cons_self with absent | ⟨linked, enrolled⟩
    · rw [switchLane_of_absent absent, ih once later noBallot, configuredNotice, if_neg (by simp [absent])]
    · have vote : (d.switchLane l).vote = d.vote := by simp
      have config : (d.switchLane l).config = d.config := config_congr (by simp)
      have state {m : Lane} (listed : m ∈ rest) : (d.switchLane l).laneState m = d.laneState m := by
        rw [laneState_switchLane, if_neg fun same : l = m => alone (same ▸ listed)]
      have same : rest.filterMap (d.switchLane l).configuredNotice = rest.filterMap d.configuredNotice :=
        List.filterMap_congr fun m listed => by rw [configuredNotice, state listed, configuredNotice]
      have moved := switchLane_of_linked linked enrolled
      rw [moveLane_configured linked rfl, noBallot] at moved
      rw [ih once (fun m listed => by rw [state listed, config]; exact later m listed) (by rw [moved]; rfl), same, vote,
        configuredNotice, if_pos linked, moved]
      rfl

theorem notices_switchTo_of_linked (aligned : ∀ l, b.laneState l = .absent ∨
    (b.laneState l = .linked ∧ (decodeConfig p.image).enrolled.has l = true)) : (b.switchTo p).notices =
      posted b.vote.lastEnded b.notices (.configSwitched (b.active.map ActiveConfig.digest) p.digest
        :: b.ballots.map (fun x => .ballotEnded x.slot x.action .discarded x.supporters)
        ++ (List.finRange 4).filterMap b.configuredNotice) := by
  obtain ⟨-, -, vote, -, -, notices⟩ := b.announcedSwitch_kept p
  have none_open : (b.announcedSwitch p).ballots = [] := by
    rw [announcedSwitch, discardBallots_eq]
  have stamp : (b.announcedSwitch p).vote.lastEnded = b.vote.lastEnded := by
    rw [vote]
    rfl
  have same : (b.announcedSwitch p).configuredNotice = b.configuredNotice :=
    funext fun l => by rw [configuredNotice, laneState_announcedSwitch, configuredNotice]
  rw [notices_switchTo_eq, notices_foldl_switchLane (List.nodup_finRange 4) (fun l _ => ?_) none_open, notices, stamp, same,
    ← posted_append]
  rw [laneState_announcedSwitch, config_announcedSwitch]
  exact aligned l

/-! ## The blocks of the first switch before the count is compared -/

/-- GATHERING entered, before the admissions (05 R80). -/
def gatheringEntered (b : Blocks) : Blocks :=
  ({ b with device := .gathering } : Blocks).postState .unconfigured .gathering .firstSwitch

theorem gatheringEntered_eq (b : Blocks) : b.gatheringEntered = { b with
    device := .gathering
    notices := b.notices.post b.vote.lastEnded (.stateChange .unconfigured .gathering .firstSwitch) } := rfl

/-- The first switch with its admissions, before the count is compared (05 R80). -/
def firstSwitched (b : Blocks) (p : PendingRecord) : Blocks := (b.switchTo p).gatheringEntered.admitReady

theorem firstSwitch_eq (pending : b.pendingRecord = some p) : b.firstSwitch = (b.firstSwitched p).reportCount := by
  rw [firstSwitch, carryOutPending_of_some pending]
  rfl

theorem firstSwitched_kept (b : Blocks) (p : PendingRecord) : (b.firstSwitched p).device = .gathering ∧
    (b.firstSwitched p).active = some ⟨decodeConfig p.image, p.digest⟩ ∧ (b.firstSwitched p).pendingRecord = none ∧
    (b.firstSwitched p).ballots = [] ∧ (b.firstSwitched p).lockoutRecord = b.lockoutRecord ∧
    (b.firstSwitched p).vote = { b.vote with
      channels := Table.build fun c => ⟨((decodeConfig p.image).entries.row c).fallback, 0, false, false⟩ } ∧
    ∀ c, ((b.firstSwitched p).channelOutput c).drive = if ((decodeConfig p.image).entries.row c).type = .unused
      then ⟨.unused, 0⟩ else ⟨((decodeConfig p.image).entries.row c).type, ((decodeConfig p.image).entries.row c).fallback⟩ := by
  obtain ⟨-, record, active, pending, -⟩ := b.switchTo_kept p
  have ballots := b.ballots_switchTo p
  have vote := b.vote_switchTo p
  have drive := b.drive_after_switchTo p
  rw [firstSwitched]
  generalize b.switchTo p = switched at *
  rw [admitReady_eq, gatheringEntered_eq]
  exact ⟨rfl, active, pending, ballots, record, vote, drive⟩

theorem row_firstSwitched (b : Blocks) (p : PendingRecord) (m : Lane) :
    (b.firstSwitched p).lanes.row m = (b.switchTo p).admittedRow m := by
  rw [firstSwitched, row_admitReady]
  exact admittedRow_congr rfl

/-- A LINKED lane that the image enrols comes to VOTING with its lease started (04 R60, R65, R72). -/
theorem row_firstSwitched_of_joins (linked : b.laneState m = .linked)
    (enrolled : (decodeConfig p.image).enrolled.has m = true) : (b.firstSwitched p).lanes.row m = { b.lanes.row m with
      state := .voting, strikes := 0, lease := some (decodeConfig p.image).lease, returnPending := false } := by
  have state : (b.lanes.row m).state = .linked := linked
  have row := b.row_switchTo p m
  rw [switchedRecord, state, if_neg (by decide), if_neg (by simp [enrolled]), if_pos rfl] at row
  have candidate : (b.switchTo p).laneState m = .candidate := congrArg LaneRecord.state row
  rw [row_firstSwitched, admittedRow, if_pos ((readyForAdmission_iff _ m).mpr (.inl candidate)), row]

/-- A lane that the image does not bring in comes to ABSENT. -/
theorem laneState_switchTo_of_apart (before : b.laneState m = .absent ∨ b.laneState m = .linked)
    (apart : ¬ (b.laneState m = .linked ∧ (decodeConfig p.image).enrolled.has m = true)) :
    (b.switchTo p).laneState m = .absent := by
  rw [laneState_switchTo, switchedState]
  rcases before with absent | linked
  · simp [absent]
  · have outside : ¬ (decodeConfig p.image).enrolled.has m = true := fun enrolled => apart ⟨linked, enrolled⟩
    simp [outside]

theorem row_firstSwitched_of_apart (before : b.laneState m = .absent ∨ b.laneState m = .linked)
    (apart : ¬ (b.laneState m = .linked ∧ (decodeConfig p.image).enrolled.has m = true)) :
    (b.firstSwitched p).laneState m = .absent ∧ ((b.firstSwitched p).lanes.row m).strikes = 0 := by
  have absent := laneState_switchTo_of_apart before apart
  have waits : (b.switchTo p).readyForAdmission m ≠ true := by simp [readyForAdmission, absent]
  rw [laneState, row_firstSwitched, admittedRow, if_neg waits]
  exact ⟨absent, b.strikes_switchTo p m⟩

/-- The lanes that the first switch brings in (05 R80). -/
abbrev Joins (b : Blocks) (p : PendingRecord) (m : Lane) : Prop :=
  b.laneState m = .linked ∧ (decodeConfig p.image).enrolled.has m = true

theorem laneState_firstSwitched_eq_voting_iff (before : b.laneState m = .absent ∨ b.laneState m = .linked) :
    (b.firstSwitched p).laneState m = .voting ↔ Joins b p m := by
  by_cases joins : Joins b p m
  · obtain ⟨linked, enrolled⟩ := joins
    have row := row_firstSwitched_of_joins linked enrolled
    exact iff_of_true (congrArg LaneRecord.state row) ⟨linked, enrolled⟩
  · obtain ⟨absent, -⟩ := row_firstSwitched_of_apart before joins
    exact iff_of_false (by simp [absent]) joins

/-! ## The notices of the first switch -/

/-- The lanes brought in, in ascending order. -/
def joining (b : Blocks) (p : PendingRecord) : List Lane := (List.finRange 4).filter fun m => decide (Joins b p m)

theorem filterMap_joining {f : Lane → Option NoticeBody} {body : Lane → NoticeBody}
    (joins : ∀ m, Joins b p m → f m = some (body m)) (apart : ∀ m, ¬ Joins b p m → f m = none) :
    (List.finRange 4).filterMap f = (b.joining p).map body := by
  rw [joining, ← List.filterMap_eq_map, List.filterMap_filter]
  refine List.filterMap_congr fun m _ => ?_
  by_cases yes : Joins b p m
  · simp [yes, joins m yes]
  · simp [yes, apart m yes]

theorem configuredNotices_eq (all : ∀ m, b.laneState m = .linked → Joins b p m) :
    (List.finRange 4).filterMap b.configuredNotice
      = (b.joining p).map fun m => .memberChange m .linked .candidate .configured := by
  refine filterMap_joining (fun m joins => ?_) fun m apart => ?_
  · obtain ⟨linked, -⟩ := joins
    exact if_pos linked
  · exact if_neg fun linked => apart (all m linked)

theorem admissionNotices_switchTo (before : ∀ m, b.laneState m = .absent ∨ b.laneState m = .linked) :
    (b.switchTo p).admissionNotices = (b.joining p).map fun m => .memberChange m .candidate .voting .admitted := by
  refine filterMap_joining (fun m joins => ?_) fun m apart => ?_
  · obtain ⟨linked, enrolled⟩ := joins
    have candidate : (b.switchTo p).laneState m = .candidate := by
      rw [laneState_switchTo]
      simp [switchedState, linked, enrolled]
    exact if_pos candidate
  · have absent := laneState_switchTo_of_apart (before m) apart
    exact admissionNotice_of_not_ready (by simp [readyForAdmission, absent])

theorem notices_firstSwitched (before : ∀ m, b.laneState m = .absent ∨ b.laneState m = .linked)
    (all : ∀ m, b.laneState m = .linked → Joins b p m) : (b.firstSwitched p).notices =
      posted b.vote.lastEnded b.notices (.configSwitched (b.active.map ActiveConfig.digest) p.digest
        :: b.ballots.map (fun x => .ballotEnded x.slot x.action .discarded x.supporters)
        ++ (b.joining p).map (fun m => .memberChange m .linked .candidate .configured)
        ++ [.stateChange .unconfigured .gathering .firstSwitch]
        ++ (b.joining p).map fun m => .memberChange m .candidate .voting .admitted) := by
  have aligned (l : Lane) : b.laneState l = .absent ∨
      (b.laneState l = .linked ∧ (decodeConfig p.image).enrolled.has l = true) := (before l).imp_right (all l)
  have switched := notices_switchTo_of_linked aligned
  have stamp : (b.switchTo p).vote.lastEnded = b.vote.lastEnded := by
    rw [vote_switchTo]
    rfl
  have admissions : (b.switchTo p).gatheringEntered.admissionNotices = (b.switchTo p).admissionNotices :=
    List.filterMap_congr fun m _ => admissionNotice_congr rfl
  have notices : (b.firstSwitched p).notices = posted (b.switchTo p).vote.lastEnded
      ((b.switchTo p).notices.post (b.switchTo p).vote.lastEnded (.stateChange .unconfigured .gathering .firstSwitch))
      (b.switchTo p).admissionNotices := by
    rw [firstSwitched, admitReady_eq, admissions, gatheringEntered_eq]
  rw [configuredNotices_eq all] at switched
  rw [notices, stamp, switched, admissionNotices_switchTo before]
  simp only [posted_append, posted_cons, posted_nil]

end Blocks

/-! ## The passing SUPPORT -/

/-- While the part is unconfigured every lane is ABSENT or LINKED (04 R55). -/
theorem absent_or_linked_of_unconfigured {s : State} (law : MembershipLaw s) (unconfigured : s.device = .unconfigured)
    (m : Lane) : s.laneState m = .absent ∨ s.laneState m = .linked := by
  obtain ⟨none, -, member, -⟩ := law
  by_contra other
  obtain ⟨present, unlinked⟩ := not_or.mp other
  obtain ⟨a, active, -⟩ := member m present unlinked
  rw [none unconfigured] at active
  cases active

theorem Blocks.commitConfig_of_unconfigured {b : Blocks} (unconfigured : b.device = .unconfigured) (image : Memory)
    (d : Digest) : b.commitConfig image d = ({ b with pendingRecord := some ⟨image, d⟩ } : Blocks).firstSwitch := by
  simp only [commitConfig, unconfigured]

namespace Blocks

variable {b : Blocks} {p : PendingRecord}

/-- The quorum of the new record met by the lanes brought in (05 R80). -/
theorem hasQuorum_firstSwitched (before : ∀ m, b.laneState m = .absent ∨ b.laneState m = .linked) :
    (b.firstSwitched p).hasQuorum = true ↔
      (decodeConfig p.image).quorum ≤ (List.finRange 4).countP fun m => decide (Joins b p m) := by
  obtain ⟨-, active, -⟩ := b.firstSwitched_kept p
  have config : (b.firstSwitched p).config = decodeConfig p.image := by rw [Blocks.config, active]
  have votes : (b.firstSwitched p).votingCount = (List.finRange 4).countP fun m => decide (Joins b p m) :=
    votingCount_eq_countP fun m => by rw [decide_eq_true_eq, laneState_firstSwitched_eq_voting_iff (before m)]
  rw [hasQuorum_iff, votes, config]

/-- RUNNING entered at the first switch leaves the leases as they have just been started (05 R81). -/
theorem row_enterRunning_firstSwitched (before : ∀ m, b.laneState m = .absent ∨ b.laneState m = .linked) (m : Lane) :
    (b.firstSwitched p).enterRunning.lanes.row m = (b.firstSwitched p).lanes.row m := by
  obtain ⟨-, active, -⟩ := b.firstSwitched_kept p
  have config : (b.firstSwitched p).config = decodeConfig p.image := by rw [Blocks.config, active]
  rw [row_enterRunning, config]
  split
  · rename_i voting
    obtain ⟨linked, enrolled⟩ := (laneState_firstSwitched_eq_voting_iff (before m)).mp voting
    rw [row_firstSwitched_of_joins linked enrolled]
  · rfl

theorem lanes_firstSwitched (before : ∀ m, b.laneState m = .absent ∨ b.laneState m = .linked) {d : Blocks}
    (rows : ∀ m, d.lanes.row m = (b.firstSwitched p).lanes.row m) (m : Lane) : (d.lanes.row m).strikes = 0 ∧
      (Joins b p m → d.laneState m = .voting ∧ (d.lanes.row m).lease = some (decodeConfig p.image).lease ∧
        (d.lanes.row m).returnPending = false) ∧
      (¬ Joins b p m → d.laneState m = .absent) := by
  rw [laneState, rows]
  by_cases joins : Joins b p m
  · obtain ⟨linked, enrolled⟩ := joins
    rw [row_firstSwitched_of_joins linked enrolled]
    exact ⟨rfl, fun _ => ⟨rfl, rfl, rfl⟩, fun apart => absurd ⟨linked, enrolled⟩ apart⟩
  · obtain ⟨absent, strikes⟩ := row_firstSwitched_of_apart (before m) joins
    exact ⟨strikes, fun yes => absurd yes joins, fun _ => absent⟩

/-- At its fallback image RUNNING drives every channel to fallback, whatever its faults and vetoes (01 R8). -/
theorem drive_enterRunning_of_fallback {c : Channel} (same : b.agreed c = b.fallback c) :
    (b.enterRunning.channelOutput c).drive =
      if (b.entry c).type = .unused then ⟨.unused, 0⟩ else ⟨(b.entry c).type, (b.entry c).fallback⟩ := by
  rw [drive_enterRunning, same, ite_self]
  rfl

end Blocks

/-- The blocks in which the ballot has passed and its image is the pending record. -/
def Blocks.firstPending (b : Blocks) (x : Ballot) (supporters : LaneSet) (p : PendingRecord) : Blocks :=
  { b.ballotGone x supporters with pendingRecord := some p }

/-- The SUPPORT that brings COMMIT_CONFIG to the quorum of its image while UNCONFIGURED (06 R100 to R104). -/
theorem exec_support_firstSwitch {s : State} {l low : Lane} {q : Byte} {d : Digest} {x : Ballot}
    (takes : Takes s l q (0x01#8 :: bytes32 d)) (unconfigured : s.device = .unconfigured) (inactive : s.active = none)
    (law : BallotLaw s) (linked : s.laneState l = .linked) (settled : s.pendingRecord = none) (listed : x ∈ s.ballots)
    (action : x.action = .commitConfig d) (joins : x.supporters.has l = false)
    (carries : (s.staging.row l).carries d = true)
    (enrolled : (Memory.read (s.staging.row l).image 0).getLsbD l.val = true)
    (lowest : Blocks.lowestSupporter (x.supporters.insert l) = some low)
    (enough : imageByte (s.staging.row low).image 1 ≤ x.supporters.size + 1) :
    ∃ t, exec (.support l q (0x01#8 :: bytes32 d)) s = .next t ∧ OutsideKept s t ∧ t.staging = s.staging ∧
      Answered s t l 0x06#8 q .accepted [byte x.slot.val, 0x04#8, byte (x.supporters.size + 1),
        byte (imageByte (s.staging.row low).image 1)] false ∧
      t.toBlocks = ((s.toBlocks.firstPending x (x.supporters.insert l) ⟨(s.staging.row low).image, d⟩).firstSwitched
        ⟨(s.staging.row low).image, d⟩).reportCount := by
  have may : s.maySupport l = true := Blocks.maySupport_iff.mpr (.inl ⟨unconfigured, linked⟩)
  have applicable : s.toBlocks.inapplicable s.staging l x.action = none := by
    rw [action, Blocks.inapplicable_commitConfig_of_carries settled carries]
    exact if_neg fun ⟨_, unlisted⟩ => by simp [enrolled] at unlisted
  have found := Blocks.ballotFor_of_mem ((ballotLaw_iff s).mp law) listed
  have needed := Blocks.quorumNeeded_of_lowest inactive lowest s.staging
  have accepts := ((Blocks.support_of_applicable (by simp [unconfigured]) may applicable).trans
    (Blocks.supportTable_of_joiner found joins)).trans (Blocks.addSupport_of_enough joins (needed.symm ▸ enough))
  rw [needed, action] at accepts
  obtain ⟨t, runs, outside, staging, answered, blocks⟩ := support_accepted takes (parseSupport_commitConfig d) accepts
  refine ⟨t, runs, outside, staging, answered, blocks.trans ?_⟩
  have passes : s.toBlocks.pass s.staging x (x.supporters.insert l)
      = (s.toBlocks.ballotGone x (x.supporters.insert l)).commitConfig (s.staging.row low).image d := by
    have carried : s.toBlocks.pass s.staging x (x.supporters.insert l)
        = (s.toBlocks.ballotGone x (x.supporters.insert l)).carryOut s.staging (x.supporters.insert l) x.action := rfl
    rw [carried, action]
    simp only [Blocks.carryOut, lowest]
  rw [passes, Blocks.commitConfig_of_unconfigured (b := s.toBlocks.ballotGone x (x.supporters.insert l)) unconfigured]
  exact Blocks.firstSwitch_eq rfl

/-- Settles O51: the passing SUPPORT carries the first switch out, and the count is compared. -/
theorem firstSwitchConfiguresThePart : Obligations.FirstSwitchConfiguresThePart := by
  intro s l low q d x takes unconfigured membership law linked settled listed action joins sealed digest enrolled member
    least image new enough joined count joining changes
  have before := absent_or_linked_of_unconfigured membership unconfigured
  obtain ⟨unset, -⟩ := membership
  have inactive := unset unconfigured
  have carries := ((s.staging.row l).carries_iff d).mpr ⟨sealed, digest⟩
  obtain ⟨t, runs, outside, staging, answered, blocks⟩ := exec_support_firstSwitch takes unconfigured inactive law linked
    settled listed action joins carries enrolled (lowestSupporter_insert member least) enough
  refine ⟨t, runs, outside, staging, answered, ?_⟩
  have before' (m : Lane) : (s.toBlocks.firstPending x (x.supporters.insert l) ⟨image, d⟩).laneState m = .absent ∨
      (s.toBlocks.firstPending x (x.supporters.insert l) ⟨image, d⟩).laneState m = .linked := before m
  have quorum := Blocks.hasQuorum_firstSwitched (p := ⟨image, d⟩) before'
  have lanes := @Blocks.lanes_firstSwitched _ ⟨image, d⟩ before'
  have running := Blocks.row_enterRunning_firstSwitched (p := ⟨image, d⟩) before'
  have notices := Blocks.notices_firstSwitched (p := ⟨image, d⟩) before'
  have table : (s.toBlocks.firstPending x (x.supporters.insert l) ⟨image, d⟩).ballots
      = s.ballots.filter fun y => decide (y.slot ≠ x.slot) := s.toBlocks.ballots_ballotGone x (x.supporters.insert l)
  have inactive' : (s.toBlocks.firstPending x (x.supporters.insert l) ⟨image, d⟩).active = none := inactive
  rw [table, inactive'] at notices
  obtain ⟨device, active, pending, ballots, record, vote, drives⟩ :=
    (s.toBlocks.firstPending x (x.supporters.insert l) ⟨image, d⟩).firstSwitched_kept ⟨image, d⟩
  rw [Blocks.reportCount_of_gathering device] at blocks
  generalize (s.toBlocks.firstPending x (x.supporters.insert l) ⟨image, d⟩).firstSwitched ⟨image, d⟩ = switched at *
  have entry (c : Channel) : switched.entry c = new.entries.row c := by rw [Blocks.entry, Blocks.config, active]
  have channels (c : Channel) : switched.vote.channels.row c = ⟨(new.entries.row c).fallback, 0, false, false⟩ := by
    rw [vote]
    exact Table.row_build _ c
  have round : switched.vote.nextRound = s.vote.nextRound := by
    rw [vote]
    rfl
  have noted (all : ∀ m, s.laneState m = .linked → joined m) :
      switched.notices = posted s.vote.lastEnded s.notices changes := by
    rw [notices all]
    simp only [changes, posted_append, posted_cons, posted_nil]
    rfl
  by_cases sufficient : new.quorum ≤ count
  · rw [if_pos (quorum.mpr sufficient)] at blocks
    obtain ⟨device', idle, deadline, proposers, -, round', channels', posts, active', pending', ballots', record', -⟩ :=
      entered_running_follows blocks
    have fallback (c : Channel) : switched.agreed c = switched.fallback c :=
      (congrArg ChannelRecord.agreed (channels c)).trans (congrArg ChannelEntry.fallback (entry c)).symm
    refine ⟨active'.trans active, pending'.trans pending, ballots'.trans ballots, record'.trans record,
      fun c => by rw [channels', channels], round'.trans round, fun c => ?_, lanes fun m => by rw [blocks, running],
      fun _ => ⟨device', idle, deadline, proposers, fun all => ?_⟩, fun few => absurd few (Nat.not_lt.mpr sufficient)⟩
    · rw [blocks, Blocks.drive_enterRunning_of_fallback (fallback c), entry]
    · have stamp : switched.vote.lastEnded = s.vote.lastEnded := by rw [VoteEngine.lastEnded, round, VoteEngine.lastEnded]
      rw [posts, noted all, stamp]
      exact (posted_append s.vote.lastEnded s.notices changes [_]).symm
  · rw [if_neg (mt quorum.mp sufficient)] at blocks
    rw [blocks]
    exact ⟨active, pending, ballots, record, channels, round, drives, lanes fun _ => rfl,
      fun enough => absurd enough sufficient, fun _ => ⟨device, by rw [vote]; rfl, noted⟩⟩

end Sys2Proof.Machine
end
